-- ==== Sys2Proof/Word.lean ====
section
/-! DEFINITION. The word types of STK-WG: every value that crosses the command port or stands in a word space is one
whole 32-bit word (spec/20_memory.md R104, spec/30_encoding.md R140). -/

namespace Sys2Proof

/-- A 32-bit word of the command port: CMD, A, B, R (spec/30_encoding.md R140). -/
abbrev Word := BitVec 32

/-- A word read as an IEEE 754 binary32 value: bit 31 the sign, bits 30:23 the biased exponent, bits 22:0 the fraction
(spec/00_scope.md R17). The arithmetic on it is in Machine/Float.lean. -/
abbrev F32 := BitVec 32

end Sys2Proof
end

