-- ==== Sys2Proof/Syntax.lean ====
section
/-! DEFINITION. The commands of STK-WG: one constructor per row of the opcode map (spec/30_encoding.md R149), and the
command packet they travel in (R140). A command carries the operands its row uses and no others, since an operand word a
command does not use has no effect (R140; log 12). -/

namespace Sys2Proof

/-- A command packet: the command word and the two operand words (spec/30_encoding.md R140). -/
structure Packet where
  cmd : Word
  a : Word
  b : Word
deriving DecidableEq, Repr

/-- A command. `unit` is the UNIT field, the other `Nat` operands are the IMM field, words are the operand words A and B
(spec/30_encoding.md R141, R142). -/
inductive Instr where
  /-- `SYS.NOP` (spec/48_system.md R500). -/
  | sysNop
  /-- `SYS.RESET` (spec/48_system.md R501). -/
  | sysReset
  /-- `SYS.RDREG` (spec/48_system.md R502). -/
  | sysRdReg (reg : Nat)
  /-- `SYS.WRREG` (spec/48_system.md R503). -/
  | sysWrReg (reg : Nat) (v : Word)
  /-- `DL.SETDELAY` (spec/40_delay_line.md R200). -/
  | dlSetDelay (unit : Nat) (lag : Word)
  /-- `DL.TICK` (spec/40_delay_line.md R201). -/
  | dlTick (unit : Nat) (x : Word)
  /-- `DL.LASTOUT` (spec/40_delay_line.md R202). -/
  | dlLastOut (unit : Nat)
  /-- `DL.CLEAR` (spec/40_delay_line.md R203). -/
  | dlClear (unit : Nat)
  /-- `DL.BUFRD` (spec/40_delay_line.md R204). -/
  | dlBufRd (unit : Nat) (k : Word)
  /-- `DL.RDREG` (spec/40_delay_line.md R205). -/
  | dlRdReg (unit : Nat) (reg : Nat)
  /-- `OP.SETPOLE` (spec/41_filters.md R240). -/
  | opSetPole (unit : Nat) (p : Word)
  /-- `OP.SETGAIN` (spec/41_filters.md R241). -/
  | opSetGain (unit : Nat) (g : Word)
  /-- `OP.TICK` (spec/41_filters.md R242). -/
  | opTick (unit : Nat) (x : Word)
  /-- `OP.CLEAR` (spec/41_filters.md R243). -/
  | opClear (unit : Nat)
  /-- `OP.LASTOUT` (spec/41_filters.md R244). -/
  | opLastOut (unit : Nat)
  /-- `OP.RDREG` (spec/41_filters.md R245). -/
  | opRdReg (unit : Nat) (reg : Nat)
  /-- `OZ.SETZERO` (spec/41_filters.md R246). -/
  | ozSetZero (unit : Nat) (z : Word)
  /-- `OZ.SETGAIN` (spec/41_filters.md R247). -/
  | ozSetGain (unit : Nat) (g : Word)
  /-- `OZ.TICK` (spec/41_filters.md R248). -/
  | ozTick (unit : Nat) (x : Word)
  /-- `OZ.CLEAR` (spec/41_filters.md R249). -/
  | ozClear (unit : Nat)
  /-- `OZ.LASTOUT` (spec/41_filters.md R250). -/
  | ozLastOut (unit : Nat)
  /-- `OZ.RDREG` (spec/41_filters.md R251). -/
  | ozRdReg (unit : Nat) (reg : Nat)
  /-- `PZ.SETA1` (spec/41_filters.md R252). -/
  | pzSetA1 (unit : Nat) (a1 : Word)
  /-- `PZ.SETB0` (spec/41_filters.md R253). -/
  | pzSetB0 (unit : Nat) (b0 : Word)
  /-- `PZ.SETB1` (spec/41_filters.md R254). -/
  | pzSetB1 (unit : Nat) (b1 : Word)
  /-- `PZ.SETBLOCKZERO` (spec/41_filters.md R255). -/
  | pzSetBlockZero (unit : Nat) (p : Word)
  /-- `PZ.TICK` (spec/41_filters.md R256). -/
  | pzTick (unit : Nat) (x : Word)
  /-- `PZ.CLEAR` (spec/41_filters.md R257). -/
  | pzClear (unit : Nat)
  /-- `PZ.LASTOUT` (spec/41_filters.md R258). -/
  | pzLastOut (unit : Nat)
  /-- `PZ.RDREG` (spec/41_filters.md R259). -/
  | pzRdReg (unit : Nat) (reg : Nat)
  /-- `BQ.SETFREQRESON` (spec/41_filters.md R260). -/
  | bqSetFreqReson (unit : Nat) (freq : Word) (reson : Word)
  /-- `BQ.SETEQUALGAINZEROES` (spec/41_filters.md R261). -/
  | bqSetEqualGainZeroes (unit : Nat)
  /-- `BQ.TICK` (spec/41_filters.md R262). -/
  | bqTick (unit : Nat) (x : Word)
  /-- `BQ.CLEAR` (spec/41_filters.md R263). -/
  | bqClear (unit : Nat)
  /-- `BQ.LASTOUT` (spec/41_filters.md R264). -/
  | bqLastOut (unit : Nat)
  /-- `BQ.SETCOEF` (spec/41_filters.md R265). -/
  | bqSetCoef (unit : Nat) (coef : Nat) (v : Word)
  /-- `BQ.RDREG` (spec/41_filters.md R266). -/
  | bqRdReg (unit : Nat) (reg : Nat)
  /-- `BOW.SETOFFSET` (spec/42_nonlinear.md R300). -/
  | bowSetOffset (unit : Nat) (offset : Word)
  /-- `BOW.SETSLOPE` (spec/42_nonlinear.md R301). -/
  | bowSetSlope (unit : Nat) (slope : Word)
  /-- `BOW.TICK` (spec/42_nonlinear.md R302). -/
  | bowTick (unit : Nat) (dv : Word)
  /-- `BOW.RDREG` (spec/42_nonlinear.md R303). -/
  | bowRdReg (unit : Nat) (reg : Nat)
  /-- `REED.SETOFFSET` (spec/42_nonlinear.md R304). -/
  | reedSetOffset (unit : Nat) (offset : Word)
  /-- `REED.SETSLOPE` (spec/42_nonlinear.md R305). -/
  | reedSetSlope (unit : Nat) (slope : Word)
  /-- `REED.TICK` (spec/42_nonlinear.md R306). -/
  | reedTick (unit : Nat) (dp : Word)
  /-- `REED.RDREG` (spec/42_nonlinear.md R307). -/
  | reedRdReg (unit : Nat) (reg : Nat)
  /-- `JET.TICK` (spec/42_nonlinear.md R308). -/
  | jetTick (unit : Nat) (x : Word)
  /-- `JET.RDREG` (spec/42_nonlinear.md R309). -/
  | jetRdReg (unit : Nat) (reg : Nat)
  /-- `LIP.SETFREQRESON` (spec/42_nonlinear.md R310). -/
  | lipSetFreqReson (unit : Nat) (freq : Word) (reson : Word)
  /-- `LIP.SETEQUALGAINZEROES` (spec/42_nonlinear.md R311). -/
  | lipSetEqualGainZeroes (unit : Nat)
  /-- `LIP.TICK` (spec/42_nonlinear.md R312). -/
  | lipTick (unit : Nat) (mouthP : Word) (boreP : Word)
  /-- `LIP.CLEAR` (spec/42_nonlinear.md R313). -/
  | lipClear (unit : Nat)
  /-- `LIP.LASTOUT` (spec/42_nonlinear.md R314). -/
  | lipLastOut (unit : Nat)
  /-- `LIP.SETCOEF` (spec/42_nonlinear.md R315). -/
  | lipSetCoef (unit : Nat) (coef : Nat) (v : Word)
  /-- `LIP.RDREG` (spec/42_nonlinear.md R316). -/
  | lipRdReg (unit : Nat) (reg : Nat)
  /-- `ENV.SETRATE` (spec/43_envelopes.md R341). -/
  | envSetRate (unit : Nat) (rate : Word)
  /-- `ENV.SETTARGET` (spec/43_envelopes.md R342). -/
  | envSetTarget (unit : Nat) (target : Word)
  /-- `ENV.SETVALUE` (spec/43_envelopes.md R343). -/
  | envSetValue (unit : Nat) (v : Word)
  /-- `ENV.KEYON` (spec/43_envelopes.md R344). -/
  | envKeyOn (unit : Nat)
  /-- `ENV.KEYOFF` (spec/43_envelopes.md R345). -/
  | envKeyOff (unit : Nat)
  /-- `ENV.TICK` (spec/43_envelopes.md R346). -/
  | envTick (unit : Nat)
  /-- `ENV.RDREG` (spec/43_envelopes.md R347). -/
  | envRdReg (unit : Nat) (reg : Nat)
  /-- `ADSR.SETATTACK` (spec/43_envelopes.md R348). -/
  | adsrSetAttack (unit : Nat) (rate : Word)
  /-- `ADSR.SETDECAY` (spec/43_envelopes.md R349). -/
  | adsrSetDecay (unit : Nat) (rate : Word)
  /-- `ADSR.SETSUSTAIN` (spec/43_envelopes.md R350). -/
  | adsrSetSustain (unit : Nat) (level : Word)
  /-- `ADSR.SETRELEASE` (spec/43_envelopes.md R351). -/
  | adsrSetRelease (unit : Nat) (rate : Word)
  /-- `ADSR.KEYON` (spec/43_envelopes.md R352). -/
  | adsrKeyOn (unit : Nat)
  /-- `ADSR.KEYOFF` (spec/43_envelopes.md R353). -/
  | adsrKeyOff (unit : Nat)
  /-- `ADSR.TICK` (spec/43_envelopes.md R354). -/
  | adsrTick (unit : Nat)
  /-- `ADSR.RDREG` (spec/43_envelopes.md R355). -/
  | adsrRdReg (unit : Nat) (reg : Nat)
  /-- `NS.SEED` (spec/44_sources.md R380). -/
  | nsSeed (unit : Nat) (seed : Word)
  /-- `NS.TICK` (spec/44_sources.md R381). -/
  | nsTick (unit : Nat)
  /-- `NS.RDREG` (spec/44_sources.md R382). -/
  | nsRdReg (unit : Nat) (reg : Nat)
  /-- `OSC.SETFREQ` (spec/44_sources.md R383). -/
  | oscSetFreq (unit : Nat) (f : Word)
  /-- `OSC.RESET` (spec/44_sources.md R384). -/
  | oscReset (unit : Nat)
  /-- `OSC.TICK` (spec/44_sources.md R385). -/
  | oscTick (unit : Nat)
  /-- `OSC.TBLWR` (spec/44_sources.md R386). -/
  | oscTblWr (unit : Nat) (idx : Nat) (v : Word)
  /-- `OSC.TBLRD` (spec/44_sources.md R387). -/
  | oscTblRd (unit : Nat) (idx : Nat)
  /-- `OSC.RDREG` (spec/44_sources.md R388). -/
  | oscRdReg (unit : Nat) (reg : Nat)
  /-- `V.NOTEON` (spec/45_voice.md R428). -/
  | vNoteOn (f : Word) (amp : Word)
  /-- `V.NOTEOFF` (spec/45_voice.md R429). -/
  | vNoteOff (amp : Word)
  /-- `V.SETFREQ` (spec/45_voice.md R427). -/
  | vSetFreq (f : Word)
  /-- `V.TICK` (spec/45_voice.md R430). -/
  | vTick
  /-- `V.CC` (spec/45_voice.md R432). -/
  | vCc (num : Nat) (v : Word)
  /-- `V.SETINSTR` (spec/45_voice.md R423). -/
  | vSetInstr (id : Nat)
  /-- `V.RESET` (spec/45_voice.md R434). -/
  | vReset
  /-- `V.LASTOUT` (spec/45_voice.md R435). -/
  | vLastOut
  /-- `V.RDREG` (spec/45_voice.md R436). -/
  | vRdReg (reg : Nat)
  /-- `V.WRREG` (spec/45_voice.md R437). -/
  | vWrReg (reg : Nat) (v : Word)
deriving DecidableEq, Repr

end Sys2Proof
end

