-- ==== Sys2Proof/WellFormed.lean ====
section
/-! DEFINITION. When a command can be written in a packet at all: its UNIT fits 8 bits and its IMM fits 16 bits
(spec/30_encoding.md R141). Whether the unit exists and the index is listed is for the block to check when it executes
the command (R148; log 13), so a command that fails those checks is still well formed. -/

namespace Sys2Proof

/-- UNIT is CMD[23:16] (spec/30_encoding.md R141). -/
abbrev unitFits (unit : Nat) : Prop := unit < 256

/-- IMM is CMD[15:0] (spec/30_encoding.md R141). -/
abbrev immFits (imm : Nat) : Prop := imm < 65536

/-- The fields of a command fit its packet (spec/30_encoding.md R141). -/
def Instr.wf : Instr → Bool
  | .sysNop => true
  | .sysReset => true
  | .sysRdReg reg => decide (immFits reg)
  | .sysWrReg reg _ => decide (immFits reg)
  | .dlSetDelay unit _ => decide (unitFits unit)
  | .dlTick unit _ => decide (unitFits unit)
  | .dlLastOut unit => decide (unitFits unit)
  | .dlClear unit => decide (unitFits unit)
  | .dlBufRd unit _ => decide (unitFits unit)
  | .dlRdReg unit reg => decide (unitFits unit) && decide (immFits reg)
  | .opSetPole unit _ => decide (unitFits unit)
  | .opSetGain unit _ => decide (unitFits unit)
  | .opTick unit _ => decide (unitFits unit)
  | .opClear unit => decide (unitFits unit)
  | .opLastOut unit => decide (unitFits unit)
  | .opRdReg unit reg => decide (unitFits unit) && decide (immFits reg)
  | .ozSetZero unit _ => decide (unitFits unit)
  | .ozSetGain unit _ => decide (unitFits unit)
  | .ozTick unit _ => decide (unitFits unit)
  | .ozClear unit => decide (unitFits unit)
  | .ozLastOut unit => decide (unitFits unit)
  | .ozRdReg unit reg => decide (unitFits unit) && decide (immFits reg)
  | .pzSetA1 unit _ => decide (unitFits unit)
  | .pzSetB0 unit _ => decide (unitFits unit)
  | .pzSetB1 unit _ => decide (unitFits unit)
  | .pzSetBlockZero unit _ => decide (unitFits unit)
  | .pzTick unit _ => decide (unitFits unit)
  | .pzClear unit => decide (unitFits unit)
  | .pzLastOut unit => decide (unitFits unit)
  | .pzRdReg unit reg => decide (unitFits unit) && decide (immFits reg)
  | .bqSetFreqReson unit _ _ => decide (unitFits unit)
  | .bqSetEqualGainZeroes unit => decide (unitFits unit)
  | .bqTick unit _ => decide (unitFits unit)
  | .bqClear unit => decide (unitFits unit)
  | .bqLastOut unit => decide (unitFits unit)
  | .bqSetCoef unit coef _ => decide (unitFits unit) && decide (immFits coef)
  | .bqRdReg unit reg => decide (unitFits unit) && decide (immFits reg)
  | .bowSetOffset unit _ => decide (unitFits unit)
  | .bowSetSlope unit _ => decide (unitFits unit)
  | .bowTick unit _ => decide (unitFits unit)
  | .bowRdReg unit reg => decide (unitFits unit) && decide (immFits reg)
  | .reedSetOffset unit _ => decide (unitFits unit)
  | .reedSetSlope unit _ => decide (unitFits unit)
  | .reedTick unit _ => decide (unitFits unit)
  | .reedRdReg unit reg => decide (unitFits unit) && decide (immFits reg)
  | .jetTick unit _ => decide (unitFits unit)
  | .jetRdReg unit reg => decide (unitFits unit) && decide (immFits reg)
  | .lipSetFreqReson unit _ _ => decide (unitFits unit)
  | .lipSetEqualGainZeroes unit => decide (unitFits unit)
  | .lipTick unit _ _ => decide (unitFits unit)
  | .lipClear unit => decide (unitFits unit)
  | .lipLastOut unit => decide (unitFits unit)
  | .lipSetCoef unit coef _ => decide (unitFits unit) && decide (immFits coef)
  | .lipRdReg unit reg => decide (unitFits unit) && decide (immFits reg)
  | .envSetRate unit _ => decide (unitFits unit)
  | .envSetTarget unit _ => decide (unitFits unit)
  | .envSetValue unit _ => decide (unitFits unit)
  | .envKeyOn unit => decide (unitFits unit)
  | .envKeyOff unit => decide (unitFits unit)
  | .envTick unit => decide (unitFits unit)
  | .envRdReg unit reg => decide (unitFits unit) && decide (immFits reg)
  | .adsrSetAttack unit _ => decide (unitFits unit)
  | .adsrSetDecay unit _ => decide (unitFits unit)
  | .adsrSetSustain unit _ => decide (unitFits unit)
  | .adsrSetRelease unit _ => decide (unitFits unit)
  | .adsrKeyOn unit => decide (unitFits unit)
  | .adsrKeyOff unit => decide (unitFits unit)
  | .adsrTick unit => decide (unitFits unit)
  | .adsrRdReg unit reg => decide (unitFits unit) && decide (immFits reg)
  | .nsSeed unit _ => decide (unitFits unit)
  | .nsTick unit => decide (unitFits unit)
  | .nsRdReg unit reg => decide (unitFits unit) && decide (immFits reg)
  | .oscSetFreq unit _ => decide (unitFits unit)
  | .oscReset unit => decide (unitFits unit)
  | .oscTick unit => decide (unitFits unit)
  | .oscTblWr unit idx _ => decide (unitFits unit) && decide (immFits idx)
  | .oscTblRd unit idx => decide (unitFits unit) && decide (immFits idx)
  | .oscRdReg unit reg => decide (unitFits unit) && decide (immFits reg)
  | .vNoteOn _ _ => true
  | .vNoteOff _ => true
  | .vSetFreq _ => true
  | .vTick => true
  | .vCc num _ => decide (immFits num)
  | .vSetInstr id => decide (immFits id)
  | .vReset => true
  | .vLastOut => true
  | .vRdReg reg => decide (immFits reg)
  | .vWrReg reg _ => decide (immFits reg)

/-- `i` can be encoded: the hypothesis of the round trip decode after encode. -/
abbrev WellFormed (i : Instr) : Prop := i.wf = true

end Sys2Proof
end

