-- ==== Sys2Proof/Decode.lean ====
section
/-! DEFINITION. The decoder and the encoder of command packets (spec/30_encoding.md R140 to R143, R148 to R152). The
decoder makes the checks of R148 that the packet alone decides, in the order of R148, and rejects by name; the range of
UNIT and the W_NO_INSTR check depend on the block and are made by the meanings (log 13). -/

namespace Sys2Proof

/-- `CMD[31:24]`, the opcode (spec/30_encoding.md R141). -/
def cmdOp (c : Word) : BitVec 8 := c.extractLsb' 24 8

/-- `CMD[23:16]`, zero-extended (spec/30_encoding.md R141, R142). -/
def cmdUnit (c : Word) : Nat := (c.extractLsb' 16 8).toNat

/-- `CMD[15:0]`, zero-extended (spec/30_encoding.md R141, R142). -/
def cmdImm (c : Word) : Nat := (c.extractLsb' 0 16).toNat

/-- Why a packet is no command: the check of spec/30_encoding.md R148 that fails first. The block refuses it (R150). -/
inductive Reject where
  /-- OP is no row of the opcode map. -/
  | reservedOpcode
  /-- UNIT is nonzero on a SYS or VOICE command. -/
  | unitNotZero
  /-- IMM is nonzero on a command whose row does not use it. -/
  | immNotZero
deriving DecidableEq, Repr

/-- The UNIT column of the opcode map: an instance, or zero (spec/30_encoding.md R149). -/
inductive UnitField where
  | selects
  | zero
deriving DecidableEq, Repr

/-- The IMM column of the opcode map: used, or zero (spec/30_encoding.md R149). -/
inductive ImmField where
  | used
  | zero
deriving DecidableEq, Repr

/-- One row of the opcode map: OP, mnemonic, the UNIT and IMM columns, and the command the row stands for, from UNIT, IMM,
A and B. -/
structure OpRow where
  op : BitVec 8
  mnemonic : String
  unit : UnitField
  imm : ImmField
  command : Nat → Nat → Word → Word → Instr

/-- The rows of class SYS (spec/30_encoding.md R149). -/
def sysRows : List OpRow := [
  ⟨0x00#8, "SYS.NOP", .zero, .zero, fun _ _ _ _ => .sysNop⟩,
  ⟨0x01#8, "SYS.RESET", .zero, .zero, fun _ _ _ _ => .sysReset⟩,
  ⟨0x0E#8, "SYS.RDREG", .zero, .used, fun _ k _ _ => .sysRdReg k⟩,
  ⟨0x0F#8, "SYS.WRREG", .zero, .used, fun _ k a _ => .sysWrReg k a⟩]

/-- The rows of class DL (spec/30_encoding.md R149). -/
def dlRows : List OpRow := [
  ⟨0x10#8, "DL.SETDELAY", .selects, .zero, fun u _ a _ => .dlSetDelay u a⟩,
  ⟨0x11#8, "DL.TICK", .selects, .zero, fun u _ a _ => .dlTick u a⟩,
  ⟨0x12#8, "DL.LASTOUT", .selects, .zero, fun u _ _ _ => .dlLastOut u⟩,
  ⟨0x13#8, "DL.CLEAR", .selects, .zero, fun u _ _ _ => .dlClear u⟩,
  ⟨0x14#8, "DL.BUFRD", .selects, .zero, fun u _ a _ => .dlBufRd u a⟩,
  ⟨0x1E#8, "DL.RDREG", .selects, .used, fun u k _ _ => .dlRdReg u k⟩]

/-- The rows of class OP (spec/30_encoding.md R149). -/
def opRows : List OpRow := [
  ⟨0x20#8, "OP.SETPOLE", .selects, .zero, fun u _ a _ => .opSetPole u a⟩,
  ⟨0x21#8, "OP.SETGAIN", .selects, .zero, fun u _ a _ => .opSetGain u a⟩,
  ⟨0x22#8, "OP.TICK", .selects, .zero, fun u _ a _ => .opTick u a⟩,
  ⟨0x23#8, "OP.CLEAR", .selects, .zero, fun u _ _ _ => .opClear u⟩,
  ⟨0x24#8, "OP.LASTOUT", .selects, .zero, fun u _ _ _ => .opLastOut u⟩,
  ⟨0x2E#8, "OP.RDREG", .selects, .used, fun u k _ _ => .opRdReg u k⟩]

/-- The rows of class OZ (spec/30_encoding.md R149). -/
def ozRows : List OpRow := [
  ⟨0x30#8, "OZ.SETZERO", .selects, .zero, fun u _ a _ => .ozSetZero u a⟩,
  ⟨0x31#8, "OZ.SETGAIN", .selects, .zero, fun u _ a _ => .ozSetGain u a⟩,
  ⟨0x32#8, "OZ.TICK", .selects, .zero, fun u _ a _ => .ozTick u a⟩,
  ⟨0x33#8, "OZ.CLEAR", .selects, .zero, fun u _ _ _ => .ozClear u⟩,
  ⟨0x34#8, "OZ.LASTOUT", .selects, .zero, fun u _ _ _ => .ozLastOut u⟩,
  ⟨0x3E#8, "OZ.RDREG", .selects, .used, fun u k _ _ => .ozRdReg u k⟩]

/-- The rows of class PZ (spec/30_encoding.md R149). -/
def pzRows : List OpRow := [
  ⟨0x40#8, "PZ.SETA1", .selects, .zero, fun u _ a _ => .pzSetA1 u a⟩,
  ⟨0x41#8, "PZ.SETB0", .selects, .zero, fun u _ a _ => .pzSetB0 u a⟩,
  ⟨0x42#8, "PZ.SETB1", .selects, .zero, fun u _ a _ => .pzSetB1 u a⟩,
  ⟨0x43#8, "PZ.SETBLOCKZERO", .selects, .zero, fun u _ a _ => .pzSetBlockZero u a⟩,
  ⟨0x44#8, "PZ.TICK", .selects, .zero, fun u _ a _ => .pzTick u a⟩,
  ⟨0x45#8, "PZ.CLEAR", .selects, .zero, fun u _ _ _ => .pzClear u⟩,
  ⟨0x46#8, "PZ.LASTOUT", .selects, .zero, fun u _ _ _ => .pzLastOut u⟩,
  ⟨0x4E#8, "PZ.RDREG", .selects, .used, fun u k _ _ => .pzRdReg u k⟩]

/-- The rows of class BQ (spec/30_encoding.md R149). -/
def bqRows : List OpRow := [
  ⟨0x50#8, "BQ.SETFREQRESON", .selects, .zero, fun u _ a b => .bqSetFreqReson u a b⟩,
  ⟨0x51#8, "BQ.SETEQUALGAINZEROES", .selects, .zero, fun u _ _ _ => .bqSetEqualGainZeroes u⟩,
  ⟨0x52#8, "BQ.TICK", .selects, .zero, fun u _ a _ => .bqTick u a⟩,
  ⟨0x53#8, "BQ.CLEAR", .selects, .zero, fun u _ _ _ => .bqClear u⟩,
  ⟨0x54#8, "BQ.LASTOUT", .selects, .zero, fun u _ _ _ => .bqLastOut u⟩,
  ⟨0x55#8, "BQ.SETCOEF", .selects, .used, fun u k a _ => .bqSetCoef u k a⟩,
  ⟨0x5E#8, "BQ.RDREG", .selects, .used, fun u k _ _ => .bqRdReg u k⟩]

/-- The rows of class BOW (spec/30_encoding.md R149). -/
def bowRows : List OpRow := [
  ⟨0x60#8, "BOW.SETOFFSET", .selects, .zero, fun u _ a _ => .bowSetOffset u a⟩,
  ⟨0x61#8, "BOW.SETSLOPE", .selects, .zero, fun u _ a _ => .bowSetSlope u a⟩,
  ⟨0x62#8, "BOW.TICK", .selects, .zero, fun u _ a _ => .bowTick u a⟩,
  ⟨0x6E#8, "BOW.RDREG", .selects, .used, fun u k _ _ => .bowRdReg u k⟩]

/-- The rows of class REED (spec/30_encoding.md R149). -/
def reedRows : List OpRow := [
  ⟨0x70#8, "REED.SETOFFSET", .selects, .zero, fun u _ a _ => .reedSetOffset u a⟩,
  ⟨0x71#8, "REED.SETSLOPE", .selects, .zero, fun u _ a _ => .reedSetSlope u a⟩,
  ⟨0x72#8, "REED.TICK", .selects, .zero, fun u _ a _ => .reedTick u a⟩,
  ⟨0x7E#8, "REED.RDREG", .selects, .used, fun u k _ _ => .reedRdReg u k⟩]

/-- The rows of class JET (spec/30_encoding.md R149). -/
def jetRows : List OpRow := [
  ⟨0x82#8, "JET.TICK", .selects, .zero, fun u _ a _ => .jetTick u a⟩,
  ⟨0x8E#8, "JET.RDREG", .selects, .used, fun u k _ _ => .jetRdReg u k⟩]

/-- The rows of class LIP (spec/30_encoding.md R149). -/
def lipRows : List OpRow := [
  ⟨0x90#8, "LIP.SETFREQRESON", .selects, .zero, fun u _ a b => .lipSetFreqReson u a b⟩,
  ⟨0x91#8, "LIP.SETEQUALGAINZEROES", .selects, .zero, fun u _ _ _ => .lipSetEqualGainZeroes u⟩,
  ⟨0x92#8, "LIP.TICK", .selects, .zero, fun u _ a b => .lipTick u a b⟩,
  ⟨0x93#8, "LIP.CLEAR", .selects, .zero, fun u _ _ _ => .lipClear u⟩,
  ⟨0x94#8, "LIP.LASTOUT", .selects, .zero, fun u _ _ _ => .lipLastOut u⟩,
  ⟨0x95#8, "LIP.SETCOEF", .selects, .used, fun u k a _ => .lipSetCoef u k a⟩,
  ⟨0x9E#8, "LIP.RDREG", .selects, .used, fun u k _ _ => .lipRdReg u k⟩]

/-- The rows of class ENV (spec/30_encoding.md R149). -/
def envRows : List OpRow := [
  ⟨0xA0#8, "ENV.SETRATE", .selects, .zero, fun u _ a _ => .envSetRate u a⟩,
  ⟨0xA1#8, "ENV.SETTARGET", .selects, .zero, fun u _ a _ => .envSetTarget u a⟩,
  ⟨0xA2#8, "ENV.SETVALUE", .selects, .zero, fun u _ a _ => .envSetValue u a⟩,
  ⟨0xA3#8, "ENV.KEYON", .selects, .zero, fun u _ _ _ => .envKeyOn u⟩,
  ⟨0xA4#8, "ENV.KEYOFF", .selects, .zero, fun u _ _ _ => .envKeyOff u⟩,
  ⟨0xA5#8, "ENV.TICK", .selects, .zero, fun u _ _ _ => .envTick u⟩,
  ⟨0xAE#8, "ENV.RDREG", .selects, .used, fun u k _ _ => .envRdReg u k⟩]

/-- The rows of class ADSR (spec/30_encoding.md R149). -/
def adsrRows : List OpRow := [
  ⟨0xB0#8, "ADSR.SETATTACK", .selects, .zero, fun u _ a _ => .adsrSetAttack u a⟩,
  ⟨0xB1#8, "ADSR.SETDECAY", .selects, .zero, fun u _ a _ => .adsrSetDecay u a⟩,
  ⟨0xB2#8, "ADSR.SETSUSTAIN", .selects, .zero, fun u _ a _ => .adsrSetSustain u a⟩,
  ⟨0xB3#8, "ADSR.SETRELEASE", .selects, .zero, fun u _ a _ => .adsrSetRelease u a⟩,
  ⟨0xB4#8, "ADSR.KEYON", .selects, .zero, fun u _ _ _ => .adsrKeyOn u⟩,
  ⟨0xB5#8, "ADSR.KEYOFF", .selects, .zero, fun u _ _ _ => .adsrKeyOff u⟩,
  ⟨0xB6#8, "ADSR.TICK", .selects, .zero, fun u _ _ _ => .adsrTick u⟩,
  ⟨0xBE#8, "ADSR.RDREG", .selects, .used, fun u k _ _ => .adsrRdReg u k⟩]

/-- The rows of class NS (spec/30_encoding.md R149). -/
def nsRows : List OpRow := [
  ⟨0xC0#8, "NS.SEED", .selects, .zero, fun u _ a _ => .nsSeed u a⟩,
  ⟨0xC1#8, "NS.TICK", .selects, .zero, fun u _ _ _ => .nsTick u⟩,
  ⟨0xCE#8, "NS.RDREG", .selects, .used, fun u k _ _ => .nsRdReg u k⟩]

/-- The rows of class OSC (spec/30_encoding.md R149). -/
def oscRows : List OpRow := [
  ⟨0xD0#8, "OSC.SETFREQ", .selects, .zero, fun u _ a _ => .oscSetFreq u a⟩,
  ⟨0xD1#8, "OSC.RESET", .selects, .zero, fun u _ _ _ => .oscReset u⟩,
  ⟨0xD2#8, "OSC.TICK", .selects, .zero, fun u _ _ _ => .oscTick u⟩,
  ⟨0xD3#8, "OSC.TBLWR", .selects, .used, fun u k a _ => .oscTblWr u k a⟩,
  ⟨0xD4#8, "OSC.TBLRD", .selects, .used, fun u k _ _ => .oscTblRd u k⟩,
  ⟨0xDE#8, "OSC.RDREG", .selects, .used, fun u k _ _ => .oscRdReg u k⟩]

/-- The rows of class VOICE (spec/30_encoding.md R149). -/
def voiceRows : List OpRow := [
  ⟨0xE0#8, "V.NOTEON", .zero, .zero, fun _ _ a b => .vNoteOn a b⟩,
  ⟨0xE1#8, "V.NOTEOFF", .zero, .zero, fun _ _ a _ => .vNoteOff a⟩,
  ⟨0xE2#8, "V.SETFREQ", .zero, .zero, fun _ _ a _ => .vSetFreq a⟩,
  ⟨0xE3#8, "V.TICK", .zero, .zero, fun _ _ _ _ => .vTick⟩,
  ⟨0xE4#8, "V.CC", .zero, .used, fun _ k a _ => .vCc k a⟩,
  ⟨0xE5#8, "V.SETINSTR", .zero, .used, fun _ k _ _ => .vSetInstr k⟩,
  ⟨0xE6#8, "V.RESET", .zero, .zero, fun _ _ _ _ => .vReset⟩,
  ⟨0xE7#8, "V.LASTOUT", .zero, .zero, fun _ _ _ _ => .vLastOut⟩,
  ⟨0xEE#8, "V.RDREG", .zero, .used, fun _ k _ _ => .vRdReg k⟩,
  ⟨0xEF#8, "V.WRREG", .zero, .used, fun _ k a _ => .vWrReg k a⟩]

/-- The complete opcode map (spec/30_encoding.md R149). -/
def opcodeMap : List OpRow :=
  sysRows ++ dlRows ++ opRows ++ ozRows ++ pzRows ++ bqRows ++ bowRows ++
  reedRows ++ jetRows ++ lipRows ++ envRows ++ adsrRows ++ nsRows ++ oscRows ++ voiceRows

/-- The row of an opcode, if it is not reserved (spec/30_encoding.md R150). -/
def opRow (op : BitVec 8) : Option OpRow := opcodeMap.find? (fun r => r.op == op)

/-- The decode procedure of spec/30_encoding.md R148, as far as the packet alone decides it: the opcode, then UNIT, then
IMM; the first check that fails decides. -/
def decode (p : Packet) : Except Reject Instr :=
  match opRow (cmdOp p.cmd) with
  | none => .error .reservedOpcode
  | some r =>
    if r.unit = .zero ∧ cmdUnit p.cmd ≠ 0 then .error .unitNotZero
    else if r.imm = .zero ∧ cmdImm p.cmd ≠ 0 then .error .immNotZero
    else .ok (r.command (cmdUnit p.cmd) (cmdImm p.cmd) p.a p.b)

/-- A command word from its fields (spec/30_encoding.md R141). -/
def cmdWord (op : BitVec 8) (unit imm : Nat) : Word :=
  op ++ BitVec.ofNat 8 unit ++ BitVec.ofNat 16 imm

/-- The packet of a command, written from the opcode map (spec/30_encoding.md R149); an operand word the command does not
use is 0 (log 12). -/
def encode : Instr → Packet
  | .sysNop => ⟨cmdWord 0x00#8 0 0, 0#32, 0#32⟩
  | .sysReset => ⟨cmdWord 0x01#8 0 0, 0#32, 0#32⟩
  | .sysRdReg reg => ⟨cmdWord 0x0E#8 0 reg, 0#32, 0#32⟩
  | .sysWrReg reg v => ⟨cmdWord 0x0F#8 0 reg, v, 0#32⟩
  | .dlSetDelay unit lag => ⟨cmdWord 0x10#8 unit 0, lag, 0#32⟩
  | .dlTick unit x => ⟨cmdWord 0x11#8 unit 0, x, 0#32⟩
  | .dlLastOut unit => ⟨cmdWord 0x12#8 unit 0, 0#32, 0#32⟩
  | .dlClear unit => ⟨cmdWord 0x13#8 unit 0, 0#32, 0#32⟩
  | .dlBufRd unit k => ⟨cmdWord 0x14#8 unit 0, k, 0#32⟩
  | .dlRdReg unit reg => ⟨cmdWord 0x1E#8 unit reg, 0#32, 0#32⟩
  | .opSetPole unit p => ⟨cmdWord 0x20#8 unit 0, p, 0#32⟩
  | .opSetGain unit g => ⟨cmdWord 0x21#8 unit 0, g, 0#32⟩
  | .opTick unit x => ⟨cmdWord 0x22#8 unit 0, x, 0#32⟩
  | .opClear unit => ⟨cmdWord 0x23#8 unit 0, 0#32, 0#32⟩
  | .opLastOut unit => ⟨cmdWord 0x24#8 unit 0, 0#32, 0#32⟩
  | .opRdReg unit reg => ⟨cmdWord 0x2E#8 unit reg, 0#32, 0#32⟩
  | .ozSetZero unit z => ⟨cmdWord 0x30#8 unit 0, z, 0#32⟩
  | .ozSetGain unit g => ⟨cmdWord 0x31#8 unit 0, g, 0#32⟩
  | .ozTick unit x => ⟨cmdWord 0x32#8 unit 0, x, 0#32⟩
  | .ozClear unit => ⟨cmdWord 0x33#8 unit 0, 0#32, 0#32⟩
  | .ozLastOut unit => ⟨cmdWord 0x34#8 unit 0, 0#32, 0#32⟩
  | .ozRdReg unit reg => ⟨cmdWord 0x3E#8 unit reg, 0#32, 0#32⟩
  | .pzSetA1 unit a1 => ⟨cmdWord 0x40#8 unit 0, a1, 0#32⟩
  | .pzSetB0 unit b0 => ⟨cmdWord 0x41#8 unit 0, b0, 0#32⟩
  | .pzSetB1 unit b1 => ⟨cmdWord 0x42#8 unit 0, b1, 0#32⟩
  | .pzSetBlockZero unit p => ⟨cmdWord 0x43#8 unit 0, p, 0#32⟩
  | .pzTick unit x => ⟨cmdWord 0x44#8 unit 0, x, 0#32⟩
  | .pzClear unit => ⟨cmdWord 0x45#8 unit 0, 0#32, 0#32⟩
  | .pzLastOut unit => ⟨cmdWord 0x46#8 unit 0, 0#32, 0#32⟩
  | .pzRdReg unit reg => ⟨cmdWord 0x4E#8 unit reg, 0#32, 0#32⟩
  | .bqSetFreqReson unit freq reson => ⟨cmdWord 0x50#8 unit 0, freq, reson⟩
  | .bqSetEqualGainZeroes unit => ⟨cmdWord 0x51#8 unit 0, 0#32, 0#32⟩
  | .bqTick unit x => ⟨cmdWord 0x52#8 unit 0, x, 0#32⟩
  | .bqClear unit => ⟨cmdWord 0x53#8 unit 0, 0#32, 0#32⟩
  | .bqLastOut unit => ⟨cmdWord 0x54#8 unit 0, 0#32, 0#32⟩
  | .bqSetCoef unit coef v => ⟨cmdWord 0x55#8 unit coef, v, 0#32⟩
  | .bqRdReg unit reg => ⟨cmdWord 0x5E#8 unit reg, 0#32, 0#32⟩
  | .bowSetOffset unit offset => ⟨cmdWord 0x60#8 unit 0, offset, 0#32⟩
  | .bowSetSlope unit slope => ⟨cmdWord 0x61#8 unit 0, slope, 0#32⟩
  | .bowTick unit dv => ⟨cmdWord 0x62#8 unit 0, dv, 0#32⟩
  | .bowRdReg unit reg => ⟨cmdWord 0x6E#8 unit reg, 0#32, 0#32⟩
  | .reedSetOffset unit offset => ⟨cmdWord 0x70#8 unit 0, offset, 0#32⟩
  | .reedSetSlope unit slope => ⟨cmdWord 0x71#8 unit 0, slope, 0#32⟩
  | .reedTick unit dp => ⟨cmdWord 0x72#8 unit 0, dp, 0#32⟩
  | .reedRdReg unit reg => ⟨cmdWord 0x7E#8 unit reg, 0#32, 0#32⟩
  | .jetTick unit x => ⟨cmdWord 0x82#8 unit 0, x, 0#32⟩
  | .jetRdReg unit reg => ⟨cmdWord 0x8E#8 unit reg, 0#32, 0#32⟩
  | .lipSetFreqReson unit freq reson => ⟨cmdWord 0x90#8 unit 0, freq, reson⟩
  | .lipSetEqualGainZeroes unit => ⟨cmdWord 0x91#8 unit 0, 0#32, 0#32⟩
  | .lipTick unit mouthP boreP => ⟨cmdWord 0x92#8 unit 0, mouthP, boreP⟩
  | .lipClear unit => ⟨cmdWord 0x93#8 unit 0, 0#32, 0#32⟩
  | .lipLastOut unit => ⟨cmdWord 0x94#8 unit 0, 0#32, 0#32⟩
  | .lipSetCoef unit coef v => ⟨cmdWord 0x95#8 unit coef, v, 0#32⟩
  | .lipRdReg unit reg => ⟨cmdWord 0x9E#8 unit reg, 0#32, 0#32⟩
  | .envSetRate unit rate => ⟨cmdWord 0xA0#8 unit 0, rate, 0#32⟩
  | .envSetTarget unit target => ⟨cmdWord 0xA1#8 unit 0, target, 0#32⟩
  | .envSetValue unit v => ⟨cmdWord 0xA2#8 unit 0, v, 0#32⟩
  | .envKeyOn unit => ⟨cmdWord 0xA3#8 unit 0, 0#32, 0#32⟩
  | .envKeyOff unit => ⟨cmdWord 0xA4#8 unit 0, 0#32, 0#32⟩
  | .envTick unit => ⟨cmdWord 0xA5#8 unit 0, 0#32, 0#32⟩
  | .envRdReg unit reg => ⟨cmdWord 0xAE#8 unit reg, 0#32, 0#32⟩
  | .adsrSetAttack unit rate => ⟨cmdWord 0xB0#8 unit 0, rate, 0#32⟩
  | .adsrSetDecay unit rate => ⟨cmdWord 0xB1#8 unit 0, rate, 0#32⟩
  | .adsrSetSustain unit level => ⟨cmdWord 0xB2#8 unit 0, level, 0#32⟩
  | .adsrSetRelease unit rate => ⟨cmdWord 0xB3#8 unit 0, rate, 0#32⟩
  | .adsrKeyOn unit => ⟨cmdWord 0xB4#8 unit 0, 0#32, 0#32⟩
  | .adsrKeyOff unit => ⟨cmdWord 0xB5#8 unit 0, 0#32, 0#32⟩
  | .adsrTick unit => ⟨cmdWord 0xB6#8 unit 0, 0#32, 0#32⟩
  | .adsrRdReg unit reg => ⟨cmdWord 0xBE#8 unit reg, 0#32, 0#32⟩
  | .nsSeed unit seed => ⟨cmdWord 0xC0#8 unit 0, seed, 0#32⟩
  | .nsTick unit => ⟨cmdWord 0xC1#8 unit 0, 0#32, 0#32⟩
  | .nsRdReg unit reg => ⟨cmdWord 0xCE#8 unit reg, 0#32, 0#32⟩
  | .oscSetFreq unit f => ⟨cmdWord 0xD0#8 unit 0, f, 0#32⟩
  | .oscReset unit => ⟨cmdWord 0xD1#8 unit 0, 0#32, 0#32⟩
  | .oscTick unit => ⟨cmdWord 0xD2#8 unit 0, 0#32, 0#32⟩
  | .oscTblWr unit idx v => ⟨cmdWord 0xD3#8 unit idx, v, 0#32⟩
  | .oscTblRd unit idx => ⟨cmdWord 0xD4#8 unit idx, 0#32, 0#32⟩
  | .oscRdReg unit reg => ⟨cmdWord 0xDE#8 unit reg, 0#32, 0#32⟩
  | .vNoteOn f amp => ⟨cmdWord 0xE0#8 0 0, f, amp⟩
  | .vNoteOff amp => ⟨cmdWord 0xE1#8 0 0, amp, 0#32⟩
  | .vSetFreq f => ⟨cmdWord 0xE2#8 0 0, f, 0#32⟩
  | .vTick => ⟨cmdWord 0xE3#8 0 0, 0#32, 0#32⟩
  | .vCc num v => ⟨cmdWord 0xE4#8 0 num, v, 0#32⟩
  | .vSetInstr id => ⟨cmdWord 0xE5#8 0 id, 0#32, 0#32⟩
  | .vReset => ⟨cmdWord 0xE6#8 0 0, 0#32, 0#32⟩
  | .vLastOut => ⟨cmdWord 0xE7#8 0 0, 0#32, 0#32⟩
  | .vRdReg reg => ⟨cmdWord 0xEE#8 0 reg, 0#32, 0#32⟩
  | .vWrReg reg v => ⟨cmdWord 0xEF#8 0 reg, v, 0#32⟩

/-- The packet whose bits are `w`, numbered with bit 0 the least significant bit of the command word: CMD in bits 31:0,
A in bits 63:32, B in bits 95:64 (DESIGN CHOICE for the numbering of the operand words, log 11; safe). -/
def packetOfBits (w : Nat) : Packet :=
  ⟨BitVec.ofNat 32 w, BitVec.ofNat 32 (w / 2 ^ 32), BitVec.ofNat 32 (w / 2 ^ 64)⟩

/-- The packet of the low `nbits` bits of `w`, every higher bit zero. -/
def packetOfTableWord (nbits w : Nat) : Packet := packetOfBits (w % 2 ^ nbits)

/-- The command the decoder reads from an instruction whose low `nbits` bits are `w` and whose other bits are zero. -/
def decodeTableWord (nbits w : Nat) : Option Instr :=
  match decode (packetOfTableWord nbits w) with
  | .ok i => some i
  | .error _ => none

end Sys2Proof
end

