-- ==== Sys2Proof/Config.lean ====
section
/-! DEFINITION. What one build of STK-WG fixes (the implementation parameters of spec/00_scope.md section 4) and the free
values the spec leaves open. A free value is an opaque constant: nothing can be proved of what it is. -/

namespace Sys2Proof.Config

/-- `NOISE_MODEL` (spec/00_scope.md R15). -/
inductive NoiseModel where
  /-- The generator of spec/44_sources.md R381; the default. -/
  | xorshift32
  /-- Every `NS.TICK` result is a free input in [-1.0, 1.0]. -/
  | draw
deriving DecidableEq, Repr

/-- The choice of `COS32` (spec/00_scope.md R14). -/
inductive CosineModel where
  /-- The reference value: the binary32 value nearest to the exact cosine; the default. -/
  | reference
  /-- Any other function of the argument alone: `Config.cosineImpl`. -/
  | implementation
deriving DecidableEq, Repr

/-- The build-time parameters of spec/00_scope.md R10 to R15. `dlLens` lists `L_i`, so `N_DL` is its length.
`LAT` (R16) is the free value `Config.latencyLessOne`, since it may differ per execution. -/
structure Build where
  /-- `FS`, the sample rate in Hz (R10). -/
  fs : F32
  /-- `L_i` for each delay line (R12). -/
  dlLens : List Nat
  nOp : Nat
  nOz : Nat
  nPz : Nat
  nBq : Nat
  nBow : Nat
  nReed : Nat
  nJet : Nat
  nLip : Nat
  nEnv : Nat
  nAdsr : Nat
  nNs : Nat
  nOsc : Nat
  /-- `OSC_T`, the wavetable length (R13). -/
  oscT : Nat
  /-- `NOISE_MODEL` (R15). -/
  noise : NoiseModel
  /-- The choice of `COS32` (R14). -/
  cosine : CosineModel
deriving DecidableEq, Repr

/-- The defaults of spec/92_eei_decisions.md, "Open parameters": FS 44100.0, two delay lines of 883 words, two one-pole
filters, one of every other class, OSC_T 256, the reference cosine and xorshift32. DESIGN CHOICE (log 1): the reset state
is built from them; safe for statements over every state, which cover every build. -/
def Build.defaults : Build where
  fs := 0x472C4400#32
  dlLens := [883, 883]
  nOp := 2
  nOz := 1
  nPz := 1
  nBq := 1
  nBow := 1
  nReed := 1
  nJet := 1
  nLip := 1
  nEnv := 1
  nAdsr := 1
  nNs := 1
  nOsc := 1
  oscT := 256
  noise := .xorshift32
  cosine := .reference

/-- A unit count lies in 1..255 (spec/00_scope.md R11). -/
abbrev countLegal (n : Nat) : Prop := 1 ≤ n ∧ n ≤ 255

/-- The legal range of every parameter (spec/00_scope.md R10 to R13): FS positive and finite, the counts and their
minimums, the buffer lengths and the table length. -/
abbrev Build.Legal (b : Build) : Prop :=
  (0 < b.fs.toNat ∧ b.fs.toNat < 0x7F800000) ∧
  (2 ≤ b.dlLens.length ∧ b.dlLens.length ≤ 255) ∧ (∀ l ∈ b.dlLens, 1 ≤ l ∧ l ≤ 2 ^ 24) ∧
  (2 ≤ b.nOp ∧ b.nOp ≤ 255) ∧
  countLegal b.nOz ∧ countLegal b.nPz ∧ countLegal b.nBq ∧ countLegal b.nBow ∧ countLegal b.nReed ∧
  countLegal b.nJet ∧ countLegal b.nLip ∧ countLegal b.nEnv ∧ countLegal b.nAdsr ∧ countLegal b.nNs ∧
  countLegal b.nOsc ∧ (1 ≤ b.oscT ∧ b.oscT ≤ 65536)

/-- A `COS32` other than the reference: any total function, of its argument alone (spec/00_scope.md R14). Also the
cosine of an infinity, for which the reference names no value (log 3). -/
opaque cosineImpl : F32 → F32

/-- The raw free word of the n-th noise draw under `NOISE_MODEL = DRAW` (spec/44_sources.md R381; log 4). -/
opaque noiseDraw : Nat → F32

/-- The free part of `LAT` for the n-th served command: any integer, one less than the cycles from acceptance to
response (spec/00_scope.md R16; log 5). -/
opaque latencyLessOne : Nat → Nat

/-- `floor` of a value that is not finite and non-negative, which spec/00_scope.md R20 does not define (log 16). -/
opaque floorOutside : F32 → Nat

end Sys2Proof.Config
end

