-- ==== Sys2Proof/Machine/State.lean ====
section
/-! DEFINITION. The state of STK-WG as plain data: every register of spec/10_state.md, every word space of
spec/20_memory.md R100, the outputs of the command port (spec/30_encoding.md R144), and the machine after reset
(spec/70_reset_and_hazards.md R571). Reset constants are binary32 words; the rule beside each gives its decimal. -/

namespace Sys2Proof.Machine

/-- One word space: the cells that do not hold the reset value 0.0, by word index (spec/20_memory.md R100, R101; log 6). -/
abbrev Memory := List (Nat × Word)

/-- The canonical form of a word space: indices strictly rising, and no cell that equals what an unlisted index reads
as, 0.0. -/
abbrev Memory.wf (m : Memory) : Prop := m.Pairwise (fun a b => a.1 < b.1) ∧ ∀ c ∈ m, c.2 ≠ 0#32

/-- A delay line `DL[i]` (spec/10_state.md R33, R34). The pointers are word indices (log 19). -/
structure DelayLine where
  /-- The delay in effect after clamping. -/
  lag : F32
  /-- The index the next tick writes. -/
  wptr : Nat
  /-- The integer part of the read position. -/
  rptr : Nat
  /-- The weight of the sample after RPTR. -/
  alpha : F32
  /-- The weight of the sample at RPTR. -/
  omalpha : F32
  last : F32
  /-- `L_i`, a build constant. -/
  len : Nat
  /-- `DL[i].BUF`. -/
  buf : Memory
deriving DecidableEq, Repr

def DelayLine.reset (len : Nat) : DelayLine :=
  { lag := 0#32, wptr := 0, rptr := 0, alpha := 0#32, omalpha := 0x3F800000#32, last := 0#32, len := len, buf := [] }

/-- A one-pole filter `OP[i]` (spec/10_state.md R35). -/
structure OnePole where
  pole : F32
  gain : F32
  sgain : F32
  last : F32
deriving DecidableEq, Repr

def OnePole.reset : OnePole :=
  { pole := 0#32, gain := 0x3F800000#32, sgain := 0x3F800000#32, last := 0#32 }

/-- A one-zero filter `OZ[i]` (spec/10_state.md R36). -/
structure OneZero where
  zero : F32
  gain : F32
  b0 : F32
  b1 : F32
  x1 : F32
  last : F32
deriving DecidableEq, Repr

def OneZero.reset : OneZero :=
  { zero := 0#32, gain := 0x3F800000#32, b0 := 0x3F800000#32, b1 := 0#32, x1 := 0#32, last := 0#32 }

/-- A pole-zero filter `PZ[i]` (spec/10_state.md R37). -/
structure PoleZero where
  a1 : F32
  b0 : F32
  b1 : F32
  x1 : F32
  last : F32
deriving DecidableEq, Repr

def PoleZero.reset : PoleZero :=
  { a1 := 0#32, b0 := 0x3F800000#32, b1 := 0#32, x1 := 0#32, last := 0#32 }

/-- A biquad in direct form II, `BQ[i]` (spec/10_state.md R38); also the filter embedded in a lip unit (R42). -/
structure Biquad where
  b0 : F32
  b1 : F32
  b2 : F32
  a1 : F32
  a2 : F32
  w1 : F32
  w2 : F32
  /-- The last output; `FLAST` of a lip unit. -/
  last : F32
deriving DecidableEq, Repr

def Biquad.reset : Biquad :=
  { b0 := 0x3F800000#32, b1 := 0#32, b2 := 0#32, a1 := 0#32, a2 := 0#32, w1 := 0#32, w2 := 0#32, last := 0#32 }

/-- A bow table `BOW[i]` (spec/10_state.md R39). -/
structure Bow where
  offset : F32
  slope : F32
  last : F32
deriving DecidableEq, Repr

/-- OFFSET 0.0, SLOPE 0.1. -/
def Bow.reset : Bow := { offset := 0#32, slope := 0x3DCCCCCD#32, last := 0#32 }

/-- A reed table `REED[i]` (spec/10_state.md R40). -/
structure Reed where
  offset : F32
  slope : F32
  last : F32
deriving DecidableEq, Repr

/-- OFFSET 0.6, SLOPE -0.8. -/
def Reed.reset : Reed := { offset := 0x3F19999A#32, slope := 0xBF4CCCCD#32, last := 0#32 }

/-- A jet table `JET[i]` (spec/10_state.md R41). -/
structure Jet where
  last : F32
deriving DecidableEq, Repr

def Jet.reset : Jet := { last := 0#32 }

/-- A lip filter `LIP[i]`: an embedded biquad, whose `last` is FLAST, and the mixed output (spec/10_state.md R42). -/
structure Lip where
  filter : Biquad
  last : F32
deriving DecidableEq, Repr

def Lip.reset : Lip := { filter := Biquad.reset, last := 0#32 }

/-- `ENV.STATE` (spec/10_state.md R43). -/
inductive EnvState where
  | done
  | ramp
deriving DecidableEq, Repr

/-- A linear envelope `ENV[i]` (spec/10_state.md R43). -/
structure Env where
  value : F32
  target : F32
  rate : F32
  state : EnvState
deriving DecidableEq, Repr

/-- RATE 0.001. -/
def Env.reset : Env := { value := 0#32, target := 0#32, rate := 0x3A83126F#32, state := .done }

/-- `ADSR.STATE` (spec/10_state.md R44). -/
inductive AdsrState where
  | attack
  | decay
  | sustain
  | release
  | idle
deriving DecidableEq, Repr

/-- An ADSR envelope `ADSR[i]` (spec/10_state.md R44). -/
structure Adsr where
  value : F32
  target : F32
  state : AdsrState
  attack : F32
  decay : F32
  sustain : F32
  release : F32
deriving DecidableEq, Repr

/-- Steps 0.001, SUSTAIN 0.5, IDLE. -/
def Adsr.reset : Adsr :=
  { value := 0#32, target := 0#32, state := .idle, attack := 0x3A83126F#32, decay := 0x3A83126F#32,
    sustain := 0x3F000000#32, release := 0x3A83126F#32 }

/-- A noise source `NS[i]` (spec/10_state.md R45). -/
structure Noise where
  state : Word
  last : F32
deriving DecidableEq, Repr

def Noise.reset : Noise := { state := 1#32, last := 0#32 }

/-- A wavetable oscillator `OSC[i]` (spec/10_state.md R46, R47). -/
structure Osc where
  freq : F32
  /-- Table entries per sample. -/
  rate : F32
  phase : F32
  last : F32
  /-- `OSC_T`, a build constant. -/
  len : Nat
  /-- `OSC[i].TBL`. -/
  tbl : Memory
deriving DecidableEq, Repr

def Osc.reset (len : Nat) : Osc :=
  { freq := 0#32, rate := 0#32, phase := 0#32, last := 0#32, len := len, tbl := [] }

/-- `VOICE.INSTR` (spec/10_state.md R48, spec/45_voice.md R421). -/
inductive Instrument where
  | bowed
  | clarinet
  | flute
  | brass
  | plucked
  | none
deriving DecidableEq, Repr

/-- `VOICE.VSTATE` (spec/10_state.md R48, spec/45_voice.md R422). -/
inductive VoiceState where
  | idle
  | sounding
  | releasing
deriving DecidableEq, Repr

/-- The voice registers: status registers 0..5 (spec/10_state.md R48), then parameter registers 8..23 (R49). -/
structure Voice where
  instr : Instrument
  vstate : VoiceState
  freq : F32
  amp : F32
  baseDelay : F32
  last : F32
  comp : F32
  ratio : F32
  minDelay : F32
  defaultFreq : F32
  outGain : F32
  excOffset : F32
  excScale : F32
  attackRate : F32
  releaseScale : F32
  noiseGain : F32
  vibGain : F32
  reflA : F32
  reflB : F32
  loopGain : F32
  loopGainOn : F32
  lipReson : F32
deriving DecidableEq, Repr

def Voice.reset : Voice :=
  { instr := .none, vstate := .idle, freq := 0#32, amp := 0#32, baseDelay := 0#32, last := 0#32, comp := 0#32,
    ratio := 0#32, minDelay := 0#32, defaultFreq := 0#32, outGain := 0#32, excOffset := 0#32, excScale := 0#32,
    attackRate := 0#32, releaseScale := 0#32, noiseGain := 0#32, vibGain := 0#32, reflA := 0#32, reflB := 0#32,
    loopGain := 0#32, loopGainOn := 0#32, lipReson := 0#32 }

/-- What the host does at the port, one entry per step of the machine (spec/30_encoding.md R144 to R147,
spec/70_reset_and_hazards.md R570; log 7). -/
inductive HostEvent where
  /-- A packet offered until it is accepted. -/
  | command (p : Packet)
  /-- A cycle with `cmd_valid = 0`. -/
  | idle
  /-- `rst` asserted while no command is in execution. -/
  | rst
  /-- A packet accepted, and `rst` asserted before its response: the command is abandoned (log 10). -/
  | abandoned (p : Packet)
deriving DecidableEq, Repr

/-- The state of one STK-WG block at the end of a step. -/
structure State where
  /-- `FS`, a build constant and the register SYS.FS (spec/00_scope.md R10, spec/10_state.md R58). -/
  fs : F32
  /-- `NOISE_MODEL`, a build constant (spec/00_scope.md R15). -/
  noise : Config.NoiseModel
  /-- The choice of `COS32`, a build constant (spec/00_scope.md R14). -/
  cosine : Config.CosineModel
  /-- The units of each class; a list's length is the unit count of spec/00_scope.md R11, which no command changes. -/
  dl : List DelayLine
  op : List OnePole
  oz : List OneZero
  pz : List PoleZero
  bq : List Biquad
  bow : List Bow
  reed : List Reed
  jet : List Jet
  lip : List Lip
  env : List Env
  adsr : List Adsr
  ns : List Noise
  osc : List Osc
  /-- The one voice (spec/10_state.md R48, R49). -/
  voice : Voice
  /-- `SYS.STATUS[7:0]`; bits 31:8 read 0 (spec/10_state.md R52). -/
  status : BitVec 8
  /-- `SYS.IRQ_EN[7:0]`; bits 31:8 read 0 (spec/10_state.md R53). -/
  irqEn : BitVec 8
  /-- `SYS.LAST_WARN[3:0]`; bits 31:4 read 0 (spec/10_state.md R54). -/
  lastWarn : BitVec 4
  /-- `SYS.TICK_COUNT` (spec/10_state.md R55). -/
  tickCount : Word
  /-- `cmd_ready` (spec/30_encoding.md R144, R145; log 8). -/
  cmdReady : Bool
  /-- `rsp_valid` (spec/30_encoding.md R144, R145; log 8). -/
  rspValid : Bool
  /-- `rsp_r`: R of the command in execution, then of the last response (spec/30_encoding.md R145, R148). -/
  rspR : Word
  /-- `rsp_warn`: WARN of the command in execution, then of the last response (spec/30_encoding.md R145, R148). -/
  rspWarn : BitVec 8
  /-- `irq`, held between command ends (spec/60_exceptions.md R535). -/
  irq : Bool
  /-- The model's own: the host events still to come (log 7). -/
  inbox : List HostEvent
  /-- The model's own: how many noise samples were drawn under `NOISE_MODEL = DRAW` (log 4). -/
  drawCount : Nat
deriving DecidableEq, Repr

/-- Why a step could stop with a fault. The block has no fatal error and no state that makes it stop accepting commands
(spec/60_exceptions.md R538), so there is no constructor: nobody raises a fault (log 20; safe). -/
inductive Fault where
deriving DecidableEq, Repr

/-- Why a step could answer without a meaning. -/
inductive Refusal where
  /-- An instruction of the opcode table that has no meaning in the model; raised by an arm of `exec` only, and by none
  of them now. Safe: the model says nothing of the instruction. -/
  | notModelled (mnemonic : String)
deriving DecidableEq, Repr

/-- The reset state of a block with the build parameters `b` (spec/70_reset_and_hazards.md R571): every register at the
reset value of its table, every word 0.0, the port outputs as R571 lists them. -/
def State.ofBuild (b : Config.Build) : State :=
  { fs := b.fs, noise := b.noise, cosine := b.cosine,
    dl := b.dlLens.map DelayLine.reset,
    op := List.replicate b.nOp OnePole.reset,
    oz := List.replicate b.nOz OneZero.reset,
    pz := List.replicate b.nPz PoleZero.reset,
    bq := List.replicate b.nBq Biquad.reset,
    bow := List.replicate b.nBow Bow.reset,
    reed := List.replicate b.nReed Reed.reset,
    jet := List.replicate b.nJet Jet.reset,
    lip := List.replicate b.nLip Lip.reset,
    env := List.replicate b.nEnv Env.reset,
    adsr := List.replicate b.nAdsr Adsr.reset,
    ns := List.replicate b.nNs Noise.reset,
    osc := List.replicate b.nOsc (Osc.reset b.oscT),
    voice := Voice.reset,
    status := 0#8, irqEn := 0#8, lastWarn := 0#4, tickCount := 0#32,
    cmdReady := true, rspValid := false, rspR := 0#32, rspWarn := 0#8, irq := false,
    inbox := [], drawCount := 0 }

/-- The machine right after reset, with the spec's default build parameters (log 1) and nothing presented at the port. -/
def State.reset : State := State.ofBuild Config.Build.defaults

end Sys2Proof.Machine
end

