-- ==== Sys2Proof/Machine/Flags.lean ====
section
/-! DEFINITION. The flags of STK-WG: the warning bits of WARN and SYS.STATUS, LAST_WARN, and the interrupt line they
drive (spec/60_exceptions.md R530 to R537, spec/10_state.md R52 to R54). No arithmetic condition code exists (R52). -/

namespace Sys2Proof.Machine

/-- The warning codes of spec/60_exceptions.md R531. -/
inductive Warning where
  | delayRange
  | freqRange
  | ampRange
  | ctrlRange
  | ctrlUnknown
  | paramRange
  | illegal
  | noInstr
deriving DecidableEq, Repr

/-- The code of a warning, 1 to 8 (spec/60_exceptions.md R531). -/
def warnCode : Warning → Nat
  | .delayRange => 1
  | .freqRange => 2
  | .ampRange => 3
  | .ctrlRange => 4
  | .ctrlUnknown => 5
  | .paramRange => 6
  | .illegal => 7
  | .noInstr => 8

/-- Code `k` is bit `k - 1` of WARN and STATUS (spec/60_exceptions.md R531). -/
def warnBit (w : Warning) : BitVec 8 := 1#8 <<< (warnCode w - 1)

/-- `raise Warning(W_x)`: WARN and STATUS gain the bit, LAST_WARN takes the code (spec/60_exceptions.md R532). This is
all a warning does: it saves nothing and transfers no control (R536). -/
def raise (w : Warning) (s : State) : State :=
  { s with rspWarn := s.rspWarn ||| warnBit w, status := s.status ||| warnBit w,
           lastWarn := BitVec.ofNat 4 (warnCode w) }

/-- A warning raised on a condition. -/
def raiseIf (c : Bool) (w : Warning) (s : State) : State := if c then raise w s else s

/-- `irq = ((SYS.STATUS AND SYS.IRQ_EN) AND 0xFF) ≠ 0` (spec/60_exceptions.md R535). -/
def irqLine (status irqEn : BitVec 8) : Bool := (status &&& irqEn) != 0#8

end Sys2Proof.Machine
end

