-- ==== Sys2Proof/Machine/Float.lean ====
section
/-! DEFINITION. IEEE 754 binary32 arithmetic as spec/00_scope.md R17 to R20 and R23 fix it: one rounding to nearest, ties
to even, per operation; subnormals kept; overflow to infinity; every NaN result the canonical quiet NaN.

A finite binary32 value is an exact multiple of 2^-149, so each operation works on natural numbers in that unit
(`scaled`), computes exactly, and rounds once (`roundQuot`). -/

namespace Sys2Proof.Machine

/-- The canonical quiet NaN (spec/00_scope.md R19). -/
def fNaN : F32 := 0x7FC00000#32

/-- 0.0. -/
def fZero : F32 := 0x00000000#32

/-- 1.0. -/
def fOne : F32 := 0x3F800000#32

/-- -1.0. -/
def fMinusOne : F32 := 0xBF800000#32

/-- The bits below the sign, as a number: it orders the magnitudes. -/
def fMag (x : F32) : Nat := x.toNat % 2147483648

/-- The sign bit (spec/00_scope.md R17). -/
def fNeg? (x : F32) : Bool := x.msb

/-- The magnitude of an infinity, 0x7F800000: every NaN lies above it, every finite value below. -/
def infMag : Nat := 2139095040

/-- `isnan(x)`: true exactly for NaN encodings (spec/00_scope.md R19). -/
def isNaN (x : F32) : Bool := decide (infMag < fMag x)

def isInf (x : F32) : Bool := fMag x == infMag

/-- The unit of the exact values: 1.0 is 2^149 units. -/
def unitScale : Nat := 2 ^ 149

/-- The magnitude of a finite value in units of 2^-149, exact: the fraction with its hidden bit, shifted by the exponent
(no hidden bit and no shift for a subnormal). -/
def scaled (x : F32) : Nat :=
  if fMag x / 8388608 = 0 then fMag x
  else (8388608 + fMag x % 8388608) * 2 ^ (fMag x / 8388608 - 1)

/-- A finite value in units of 2^-149, with its sign. -/
def signedScaled (x : F32) : Int := if fNeg? x then -(scaled x : Int) else scaled x

/-- A word from a sign and a magnitude; a magnitude of `infMag` or more is an infinity (overflow, spec/00_scope.md R18). -/
def packMag (neg : Bool) (mag : Nat) : F32 :=
  BitVec.ofNat 32 ((if neg then 2147483648 else 0) + min mag infMag)

/-- The power of two that leaves a quotient `q` with 24 significant bits, or 0 where it has no more. -/
def roundShift (q : Nat) : Nat := if q < 16777216 then 0 else Nat.log2 q - 23

/-- `num / d` rounded to the nearest integer, ties to even. -/
def nearestEven (num d : Nat) : Nat :=
  if d < 2 * (num % d) ∨ (2 * (num % d) = d ∧ num / d % 2 = 1) then num / d + 1 else num / d

/-- The binary32 value nearest to `num / den` units of 2^-149, ties to even (roundTiesToEven, spec/00_scope.md R18): keep
24 significant bits (fewer for a subnormal) and round the rest. With the exponent in steps of 2^23 the carry of a
rounding into the next binade falls out by addition. -/
def roundQuot (neg : Bool) (num den : Nat) : F32 :=
  packMag neg (roundShift (num / den) * 8388608 + nearestEven num (den * 2 ^ roundShift (num / den)))

/-- NaN canonicalised, every other value as it is (spec/00_scope.md R19: a register that receives a NaN holds
0x7FC00000). -/
def fCanon (x : F32) : F32 := if isNaN x then fNaN else x

/-- A decimal literal `n/d` of the pseudocode: the nearest binary32 value (spec/00_scope.md R23). -/
def fDec (n d : Nat) : F32 := roundQuot false (n * unitScale) d

/-- A negative decimal literal `-n/d`. -/
def fDecNeg (n d : Nat) : F32 := roundQuot true (n * unitScale) d

/-- `-x`: the sign bit flipped (spec/00_scope.md R18), a NaN kept canonical (R19; log 15). -/
def fneg (x : F32) : F32 := if isNaN x then fNaN else x ^^^ 0x80000000#32

/-- `|x|`: the sign bit cleared (spec/00_scope.md R18), a NaN kept canonical (R19; log 15). -/
def fabs (x : F32) : F32 := if isNaN x then fNaN else x &&& 0x7FFFFFFF#32

/-- `fl(x + y)`. An exact sum of zero is +0.0 unless both operands are negative zeros. -/
def fadd (x y : F32) : F32 :=
  if isNaN x || isNaN y then fNaN
  else if isInf x then (if isInf y && (fNeg? x != fNeg? y) then fNaN else x)
  else if isInf y then y
  else if signedScaled x + signedScaled y = 0 then packMag (fNeg? x && fNeg? y) 0
  else roundQuot (decide (signedScaled x + signedScaled y < 0)) (signedScaled x + signedScaled y).natAbs 1

/-- `fl(x - y)`. -/
def fsub (x y : F32) : F32 := fadd x (fneg y)

/-- `fl(x * y)`. -/
def fmul (x y : F32) : F32 :=
  if isNaN x || isNaN y then fNaN
  else if isInf x || isInf y then
    (if fMag x = 0 ∨ fMag y = 0 then fNaN else packMag (fNeg? x != fNeg? y) infMag)
  else roundQuot (fNeg? x != fNeg? y) (scaled x * scaled y) unitScale

/-- `fl(x / y)`. A finite non-zero value over zero is an infinity. -/
def fdiv (x y : F32) : F32 :=
  if isNaN x || isNaN y then fNaN
  else if isInf x then (if isInf y then fNaN else packMag (fNeg? x != fNeg? y) infMag)
  else if isInf y then packMag (fNeg? x != fNeg? y) 0
  else if fMag y = 0 then (if fMag x = 0 then fNaN else packMag (fNeg? x != fNeg? y) infMag)
  else roundQuot (fNeg? x != fNeg? y) (scaled x * unitScale) (scaled y)

/-- The number that orders the values that are not NaN; both zeros are 0. -/
def fKey (x : F32) : Int := if fNeg? x then -(fMag x : Int) else fMag x

/-- `x < y`, false with a NaN (spec/00_scope.md R19); `x > y` is `flt y x`. -/
def flt (x y : F32) : Bool := !isNaN x && !isNaN y && decide (fKey x < fKey y)

/-- `x ≤ y`, false with a NaN; `x ≥ y` is `fle y x`. -/
def fle (x y : F32) : Bool := !isNaN x && !isNaN y && decide (fKey x ≤ fKey y)

/-- `x = y`, false with a NaN; `x ≠ y` is its negation. -/
def feq (x y : F32) : Bool := !isNaN x && !isNaN y && decide (fKey x = fKey y)

/-- `clamp(x, lo, hi)`: a NaN passes through unchanged (spec/00_scope.md R20). -/
def fclamp (x lo hi : F32) : F32 := if flt hi x then hi else if flt x lo then lo else x

/-- `floor(x)` for finite `x ≥ 0` (spec/00_scope.md R20); a free value elsewhere (log 16). -/
def ffloor (x : F32) : Nat :=
  if fMag x < infMag ∧ (fNeg? x = false ∨ fMag x = 0) then scaled x / unitScale else Config.floorOutside x

/-- `frac(x) = x - floor(x)`, exact for finite `x ≥ 0` (spec/00_scope.md R20). -/
def ffrac (x : F32) : F32 := roundQuot false (scaled x % unitScale) 1

/-- `f32(n)` for an unsigned integer (spec/00_scope.md R20). -/
def fOfNat (n : Nat) : F32 := roundQuot false (n * unitScale) 1

/-- `f32(int32(w))`: the two's-complement reading converted (spec/44_sources.md R381). -/
def fOfInt32 (w : Word) : F32 := roundQuot w.msb (w.toInt.natAbs * unitScale) 1

/-- The exact value of a finite binary32 word, for statements about rounding. -/
def fVal (x : F32) : ℚ := (signedScaled x : ℚ) / 2 ^ 149

end Sys2Proof.Machine
end

