-- ==== Sys2Proof/Machine/Operands.lean ====
section
/-! DEFINITION. The operand and result forms of spec/30_encoding.md R142: a data operand is a binary32 value, the seed,
the buffer index and the system register value are unsigned integers; R is a binary32 encoding or a 32-bit number. The
codes of the enumerated registers are those of spec/10_state.md R43, R44, R48. -/

namespace Sys2Proof.Machine

/-- `asf32(w)`: an operand word read as a binary32 value, a NaN canonical (spec/00_scope.md R19, R20; log 15). -/
def asF32 (w : Word) : F32 := fCanon w

/-- An operand word read as an unsigned integer (spec/30_encoding.md R142). -/
def asU32 (w : Word) : Nat := w.toNat

/-- The word of an unsigned register (spec/30_encoding.md R142). -/
def u32 (n : Nat) : Word := BitVec.ofNat 32 n

/-- `ENV.STATE` as it reads: 0 DONE, 1 RAMP (spec/10_state.md R43). -/
def envCode : EnvState → Nat
  | .done => 0
  | .ramp => 1

/-- `ADSR.STATE` as it reads (spec/10_state.md R44). -/
def adsrCode : AdsrState → Nat
  | .attack => 0
  | .decay => 1
  | .sustain => 2
  | .release => 3
  | .idle => 4

/-- `VOICE.INSTR` as it reads (spec/10_state.md R48). -/
def instrCode : Instrument → Nat
  | .bowed => 0
  | .clarinet => 1
  | .flute => 2
  | .brass => 3
  | .plucked => 4
  | .none => 15

/-- The instrument an id of `V.SETINSTR` selects; none for an id above 4 (spec/45_voice.md R423). -/
def instrOfId : Nat → Option Instrument
  | 0 => some .bowed
  | 1 => some .clarinet
  | 2 => some .flute
  | 3 => some .brass
  | 4 => some .plucked
  | _ => none

/-- `VOICE.VSTATE` as it reads (spec/10_state.md R48). -/
def vstateCode : VoiceState → Nat
  | .idle => 0
  | .sounding => 1
  | .releasing => 2

end Sys2Proof.Machine
end

