-- ==== Sys2Proof/Machine/Ops.lean ====
section
/-! DEFINITION. The shared operations: the word spaces (spec/20_memory.md R101), the units of each class, refusal
(spec/60_exceptions.md R533), and the frame every command runs in (spec/30_encoding.md R148, spec/60_exceptions.md
R535). -/

namespace Sys2Proof.Machine

/-- `MemRead(S, k)`: the last value written, or the reset value 0.0 (spec/20_memory.md R101). -/
def memRead : Memory → Nat → Word
  | [], _ => 0#32
  | c :: m, k => if c.1 = k then c.2 else memRead m k

/-- A word put into a word space, whatever its kind; the canonical form is kept. -/
def memPut : Memory → Nat → Word → Memory
  | [], k, v => if v = 0#32 then [] else [(k, v)]
  | c :: m, k, v =>
    if k < c.1 then (if v = 0#32 then c :: m else (k, v) :: c :: m)
    else if k = c.1 then (if v = 0#32 then m else (k, v) :: m)
    else c :: memPut m k v

/-- `MemWrite(S, k, v)`: the value stored with NaN canonicalised (spec/20_memory.md R101). -/
def memWrite (m : Memory) (k : Nat) (v : F32) : Memory := memPut m k (fCanon v)

/-- Every word 0.0: what a `MemWrite` of 0.0 to every index leaves (spec/40_delay_line.md R203). -/
def memZero : Memory := []

/-! The units of a class. A read of a unit that does not exist gives a unit in its reset state and a write to one is
dropped: no command reaches one, since UNIT is checked and the voice's instances always exist (spec/00_scope.md R22;
log 14). -/

def State.dlAt (s : State) (u : Nat) : DelayLine := s.dl.getD u (DelayLine.reset 1)
def State.opAt (s : State) (u : Nat) : OnePole := s.op.getD u OnePole.reset
def State.ozAt (s : State) (u : Nat) : OneZero := s.oz.getD u OneZero.reset
def State.pzAt (s : State) (u : Nat) : PoleZero := s.pz.getD u PoleZero.reset
def State.bqAt (s : State) (u : Nat) : Biquad := s.bq.getD u Biquad.reset
def State.bowAt (s : State) (u : Nat) : Bow := s.bow.getD u Bow.reset
def State.reedAt (s : State) (u : Nat) : Reed := s.reed.getD u Reed.reset
def State.jetAt (s : State) (u : Nat) : Jet := s.jet.getD u Jet.reset
def State.lipAt (s : State) (u : Nat) : Lip := s.lip.getD u Lip.reset
def State.envAt (s : State) (u : Nat) : Env := s.env.getD u Env.reset
def State.adsrAt (s : State) (u : Nat) : Adsr := s.adsr.getD u Adsr.reset
def State.nsAt (s : State) (u : Nat) : Noise := s.ns.getD u Noise.reset
def State.oscAt (s : State) (u : Nat) : Osc := s.osc.getD u (Osc.reset 1)

def State.setDl (s : State) (u : Nat) (x : DelayLine) : State := { s with dl := s.dl.set u x }
def State.setOp (s : State) (u : Nat) (x : OnePole) : State := { s with op := s.op.set u x }
def State.setOz (s : State) (u : Nat) (x : OneZero) : State := { s with oz := s.oz.set u x }
def State.setPz (s : State) (u : Nat) (x : PoleZero) : State := { s with pz := s.pz.set u x }
def State.setBq (s : State) (u : Nat) (x : Biquad) : State := { s with bq := s.bq.set u x }
def State.setBow (s : State) (u : Nat) (x : Bow) : State := { s with bow := s.bow.set u x }
def State.setReed (s : State) (u : Nat) (x : Reed) : State := { s with reed := s.reed.set u x }
def State.setJet (s : State) (u : Nat) (x : Jet) : State := { s with jet := s.jet.set u x }
def State.setLip (s : State) (u : Nat) (x : Lip) : State := { s with lip := s.lip.set u x }
def State.setEnv (s : State) (u : Nat) (x : Env) : State := { s with env := s.env.set u x }
def State.setAdsr (s : State) (u : Nat) (x : Adsr) : State := { s with adsr := s.adsr.set u x }
def State.setNs (s : State) (u : Nat) (x : Noise) : State := { s with ns := s.ns.set u x }
def State.setOsc (s : State) (u : Nat) (x : Osc) : State := { s with osc := s.osc.set u x }
def State.setVoice (s : State) (v : Voice) : State := { s with voice := v }

/-- `R <- w`. -/
def answer (w : Word) (s : State) : State := { s with rspR := w }

/-- A state and a value, as a unit's sub-operation gives them, with the value as the command's R
(spec/00_scope.md R22). -/
def answerWith (r : State × Word) : State := answer r.2 r.1

/-- `refuse`: W_ILLEGAL is raised, R is 0, nothing else changes (spec/00_scope.md R21, spec/60_exceptions.md R533). -/
def refuse (s : State) : State := answer 0#32 (raise .illegal s)

/-- A read of a register by index: the word, or a refusal where the class's table does not list the index
(spec/10_state.md R32). -/
def answerReg (r : Option Word) (s : State) : State :=
  match r with
  | some w => answer w s
  | none => refuse s

/-- `if unit >= N_cls: refuse` (spec/30_encoding.md R148), then the command's rule. -/
def onUnit (count unit : Nat) (body : State → State) (s : State) : State :=
  if unit < count then body s else refuse s

/-- `if VOICE.INSTR = 15 (NONE): raise Warning(W_NO_INSTR); stop` (spec/30_encoding.md R148, spec/45_voice.md R438), then
the command's rule. -/
def onVoice (body : State → State) (s : State) : State :=
  if s.voice.instr = .none then raise .noInstr s else body s

/-- `WARN <- 0; R <- 0` at the start of every accepted packet (spec/30_encoding.md R148). -/
def startCommand (s : State) : State := { s with rspWarn := 0#8, rspR := 0#32 }

/-- The response at the end of every command: rsp_valid rises while cmd_ready is still low (spec/30_encoding.md R145), and
irq is evaluated in the same cycle (spec/60_exceptions.md R535; log 8). -/
def endCommand (s : State) : State :=
  { s with cmdReady := false, rspValid := true, irq := irqLine s.status s.irqEn }

/-- One accepted command: WARN and R cleared, the rule, the response. A command always completes
(spec/60_exceptions.md R538). -/
def command (body : State → State) (s : State) : Host.Outcome State Fault Refusal :=
  .next (endCommand (body (startCommand s)))

/-- Every piece of state at its reset value (spec/70_reset_and_hazards.md R571): each unit reset in place, so that the
counts and lengths of the build stay. The host's events and the draw counter are no state of the block and stay
(log 4, log 7). -/
def restart (s : State) : State :=
  { s with
    dl := s.dl.map (fun d => DelayLine.reset d.len),
    op := s.op.map (fun _ => OnePole.reset),
    oz := s.oz.map (fun _ => OneZero.reset),
    pz := s.pz.map (fun _ => PoleZero.reset),
    bq := s.bq.map (fun _ => Biquad.reset),
    bow := s.bow.map (fun _ => Bow.reset),
    reed := s.reed.map (fun _ => Reed.reset),
    jet := s.jet.map (fun _ => Jet.reset),
    lip := s.lip.map (fun _ => Lip.reset),
    env := s.env.map (fun _ => Env.reset),
    adsr := s.adsr.map (fun _ => Adsr.reset),
    ns := s.ns.map (fun _ => Noise.reset),
    osc := s.osc.map (fun o => Osc.reset o.len),
    voice := Voice.reset,
    status := 0#8, irqEn := 0#8, lastWarn := 0#4, tickCount := 0#32,
    cmdReady := true, rspValid := false, rspR := 0#32, rspWarn := 0#8, irq := false }

end Sys2Proof.Machine
end

