-- ==== Sys2Proof/Machine/Envelope.lean ====
section
/-! DEFINITION. Rate sanitising, the linear envelope and the ENV commands (spec/43_envelopes.md R340 to R347). -/

namespace Sys2Proof.Machine

/-- `SanRate` warns of NaN and of a negative rate (spec/43_envelopes.md R340). -/
def rateOut (r : F32) : Bool := isNaN r || flt r fZero

/-- `SanRate`: NaN as 0.0, a negative rate by magnitude, -0.0 as it is (spec/43_envelopes.md R340). -/
def sanRate (r : F32) : F32 := if isNaN r then fZero else if flt r fZero then fabs r else r

/-- The envelope aimed at `t`: RAMP unless VALUE is there already (spec/43_envelopes.md R342, R344, R345). -/
def envAim (q : Env) (t : F32) : Env :=
  { q with target := t, state := if feq t q.value then .done else .ramp }

/-- The value one step further, before the target is looked at (spec/43_envelopes.md R346). -/
def envMoved (q : Env) : F32 :=
  if flt q.value q.target then fadd q.value q.rate else fsub q.value q.rate

/-- The step meets or passes the target (spec/43_envelopes.md R346). -/
def envArrives (q : Env) : Bool :=
  if flt q.value q.target then fle q.target (envMoved q) else fle (envMoved q) q.target

/-- `ENV.TICK` on an envelope: one step toward the target, met exactly (spec/43_envelopes.md R346). -/
def envTick (q : Env) : Env :=
  match q.state with
  | .done => q
  | .ramp => if envArrives q then { q with value := q.target, state := .done } else { q with value := envMoved q }

/-- The registers of an envelope by index (spec/10_state.md R43, spec/43_envelopes.md R347). -/
def envReg (q : Env) : Nat → Option Word
  | 0 => some q.value
  | 1 => some q.target
  | 2 => some q.rate
  | 3 => some (u32 (envCode q.state))
  | _ => none

/-- `ENV.SETRATE` as a sub-operation (spec/00_scope.md R22, spec/43_envelopes.md R341). -/
def subEnvSetRate (u : Nat) (r : F32) (s : State) : State :=
  raiseIf (rateOut r) .paramRange (s.setEnv u { s.envAt u with rate := sanRate r })

/-- `ENV.SETTARGET` as a sub-operation: a NaN target changes nothing (spec/43_envelopes.md R342). -/
def subEnvSetTarget (u : Nat) (t : F32) (s : State) : State :=
  if isNaN t then raise .paramRange s else s.setEnv u (envAim (s.envAt u) t)

/-- `ENV.SETVALUE` as a sub-operation: a NaN value changes nothing (spec/43_envelopes.md R343). -/
def subEnvSetValue (u : Nat) (v : F32) (s : State) : State :=
  if isNaN v then raise .paramRange s
  else s.setEnv u { s.envAt u with value := v, target := v, state := .done }

/-- `ENV.TICK` as a sub-operation: the state and the value after the step. -/
def subEnvTick (u : Nat) (s : State) : State × F32 :=
  (s.setEnv u (envTick (s.envAt u)), (envTick (s.envAt u)).value)

/-- `ENV.SETRATE` (spec/43_envelopes.md R341). -/
def execEnvSetRate (unit : Nat) (rate : Word) (s : State) : Host.Outcome State Fault Refusal :=
  command (onUnit s.env.length unit (subEnvSetRate unit (asF32 rate))) s

/-- `ENV.SETTARGET` (spec/43_envelopes.md R342). -/
def execEnvSetTarget (unit : Nat) (target : Word) (s : State) : Host.Outcome State Fault Refusal :=
  command (onUnit s.env.length unit (subEnvSetTarget unit (asF32 target))) s

/-- `ENV.SETVALUE` (spec/43_envelopes.md R343). -/
def execEnvSetValue (unit : Nat) (v : Word) (s : State) : Host.Outcome State Fault Refusal :=
  command (onUnit s.env.length unit (subEnvSetValue unit (asF32 v))) s

/-- `ENV.KEYON`: a ramp toward 1.0 (spec/43_envelopes.md R344). -/
def execEnvKeyOn (unit : Nat) (s : State) : Host.Outcome State Fault Refusal :=
  command (onUnit s.env.length unit (fun s => s.setEnv unit (envAim (s.envAt unit) fOne))) s

/-- `ENV.KEYOFF`: a ramp toward 0.0 (spec/43_envelopes.md R345). -/
def execEnvKeyOff (unit : Nat) (s : State) : Host.Outcome State Fault Refusal :=
  command (onUnit s.env.length unit (fun s => s.setEnv unit (envAim (s.envAt unit) fZero))) s

/-- `ENV.TICK` (spec/43_envelopes.md R346). -/
def execEnvTick (unit : Nat) (s : State) : Host.Outcome State Fault Refusal :=
  command (onUnit s.env.length unit (fun s => answerWith (subEnvTick unit s))) s

/-- `ENV.RDREG` (spec/43_envelopes.md R347). -/
def execEnvRdReg (unit : Nat) (reg : Nat) (s : State) : Host.Outcome State Fault Refusal :=
  command (onUnit s.env.length unit (fun s => answerReg (envReg (s.envAt unit) reg) s)) s

end Sys2Proof.Machine
end

