-- ==== Sys2Proof/Machine/Adsr.lean ====
section
/-! DEFINITION. The ADSR envelope and the ADSR commands (spec/43_envelopes.md R348 to R355). -/

namespace Sys2Proof.Machine

/-- A sustain level outside [0, 1] (spec/43_envelopes.md R350). -/
def sustainOut (v : F32) : Bool := flt v fZero || flt fOne v

/-- The sustain level clamped to [0, 1]; -0.0 stays as it is (spec/43_envelopes.md R350). -/
def sustainLevel (v : F32) : F32 := if flt v fZero then fZero else if flt fOne v then fOne else v

/-- `ADSR.SETSUSTAIN` on an envelope: in DECAY or SUSTAIN the value ramps to the new level (spec/43_envelopes.md R350). -/
def adsrSetSustain (q : Adsr) (v : F32) : Adsr :=
  match q.state with
  | .decay | .sustain => { q with sustain := v, target := v, state := .decay }
  | .attack | .release | .idle => { q with sustain := v }

/-- The ATTACK arm of a tick (spec/43_envelopes.md R354). -/
def adsrAttack (q : Adsr) : Adsr :=
  if fle fOne (fadd q.value q.attack) then { q with value := fOne, target := q.sustain, state := .decay }
  else { q with value := fadd q.value q.attack }

/-- The DECAY arm of a tick, from above or from below the sustain level (spec/43_envelopes.md R354). -/
def adsrDecay (q : Adsr) : Adsr :=
  if flt q.sustain q.value then
    (if fle (fsub q.value q.decay) q.sustain then { q with value := q.sustain, state := .sustain }
     else { q with value := fsub q.value q.decay })
  else
    (if fle q.sustain (fadd q.value q.decay) then { q with value := q.sustain, state := .sustain }
     else { q with value := fadd q.value q.decay })

/-- The RELEASE arm of a tick (spec/43_envelopes.md R354). -/
def adsrRelease (q : Adsr) : Adsr :=
  if fle (fsub q.value q.release) fZero then { q with value := fZero, state := .idle }
  else { q with value := fsub q.value q.release }

/-- `ADSR.TICK` on an envelope (spec/43_envelopes.md R354). -/
def adsrTick (q : Adsr) : Adsr :=
  match q.state with
  | .attack => adsrAttack q
  | .decay => adsrDecay q
  | .release => adsrRelease q
  | .sustain => q
  | .idle => q

/-- The registers of an envelope by index (spec/10_state.md R44, spec/43_envelopes.md R355). -/
def adsrReg (q : Adsr) : Nat → Option Word
  | 0 => some q.value
  | 1 => some q.target
  | 2 => some (u32 (adsrCode q.state))
  | 3 => some q.attack
  | 4 => some q.decay
  | 5 => some q.sustain
  | 6 => some q.release
  | _ => none

/-- `ADSR.SETATTACK` (spec/43_envelopes.md R348). -/
def execAdsrSetAttack (unit : Nat) (rate : Word) (s : State) : Host.Outcome State Fault Refusal :=
  command (onUnit s.adsr.length unit (fun s =>
    raiseIf (rateOut (asF32 rate)) .paramRange
      (s.setAdsr unit { s.adsrAt unit with attack := sanRate (asF32 rate) }))) s

/-- `ADSR.SETDECAY` (spec/43_envelopes.md R349). -/
def execAdsrSetDecay (unit : Nat) (rate : Word) (s : State) : Host.Outcome State Fault Refusal :=
  command (onUnit s.adsr.length unit (fun s =>
    raiseIf (rateOut (asF32 rate)) .paramRange
      (s.setAdsr unit { s.adsrAt unit with decay := sanRate (asF32 rate) }))) s

/-- `ADSR.SETSUSTAIN`: a NaN level changes nothing (spec/43_envelopes.md R350). -/
def execAdsrSetSustain (unit : Nat) (level : Word) (s : State) : Host.Outcome State Fault Refusal :=
  command (onUnit s.adsr.length unit (fun s =>
    if isNaN (asF32 level) then raise .paramRange s
    else raiseIf (sustainOut (asF32 level)) .paramRange
      (s.setAdsr unit (adsrSetSustain (s.adsrAt unit) (sustainLevel (asF32 level)))))) s

/-- `ADSR.SETRELEASE` (spec/43_envelopes.md R351). -/
def execAdsrSetRelease (unit : Nat) (rate : Word) (s : State) : Host.Outcome State Fault Refusal :=
  command (onUnit s.adsr.length unit (fun s =>
    raiseIf (rateOut (asF32 rate)) .paramRange
      (s.setAdsr unit { s.adsrAt unit with release := sanRate (asF32 rate) }))) s

/-- `ADSR.KEYON` (spec/43_envelopes.md R352). -/
def execAdsrKeyOn (unit : Nat) (s : State) : Host.Outcome State Fault Refusal :=
  command (onUnit s.adsr.length unit (fun s =>
    s.setAdsr unit { s.adsrAt unit with target := fOne, state := .attack })) s

/-- `ADSR.KEYOFF` (spec/43_envelopes.md R353). -/
def execAdsrKeyOff (unit : Nat) (s : State) : Host.Outcome State Fault Refusal :=
  command (onUnit s.adsr.length unit (fun s =>
    s.setAdsr unit { s.adsrAt unit with target := fZero, state := .release })) s

/-- `ADSR.TICK` (spec/43_envelopes.md R354). -/
def execAdsrTick (unit : Nat) (s : State) : Host.Outcome State Fault Refusal :=
  command (onUnit s.adsr.length unit (fun s =>
    answer (adsrTick (s.adsrAt unit)).value (s.setAdsr unit (adsrTick (s.adsrAt unit))))) s

/-- `ADSR.RDREG` (spec/43_envelopes.md R355). -/
def execAdsrRdReg (unit : Nat) (reg : Nat) (s : State) : Host.Outcome State Fault Refusal :=
  command (onUnit s.adsr.length unit (fun s => answerReg (adsrReg (s.adsrAt unit) reg) s)) s

end Sys2Proof.Machine
end

