-- ==== Sys2Proof/Machine/Cosine.lean ====
section
/-! DEFINITION. The cosine parameter `COS32` of spec/00_scope.md R14. Under the reference choice the value is the
binary32 value nearest to the exact cosine, computed in fixed point with 400 fraction bits and rounded once. -/

namespace Sys2Proof.Machine

/-- Fixed-point 1.0 of the cosine computation, with 400 fraction bits. -/
def cosOne : Nat := 2 ^ 400

/-- 2π with 400 fraction bits, rounded down (a mathematical constant, not the binary32 TWO_PI of R23). -/
def cosTwoPi : Nat :=
  0x6487ed5110b4611a62633145c06e0e68948127044533e63a0105df531d89cd9128a5043cc71a026ef7ca8cd9e69d218d98158

/-- The terms of the cosine series from the k-th on: `t` is the k-th term's magnitude, `acc` the sum so far, `r2` the
square of the angle, all in fixed point. -/
def cosSeries : Nat → Nat → Int → Nat → Nat → Int
  | 0, _, acc, _, _ => acc
  | fuel + 1, k, acc, t, r2 =>
    cosSeries fuel (k + 1) (if k % 2 = 0 then acc + t else acc - t)
      (t * r2 / (cosOne * ((2 * k + 1) * (2 * k + 2)))) r2

/-- The cosine in fixed point of `n` units of 2^-149: the angle reduced modulo 2π, then 64 terms of the series. An angle
is below 2^128, so the reduction errs by less than 2^-270; with the series the result errs by less than 2^-260. -/
def cosFixed (n : Nat) : Int :=
  cosSeries 64 0 0 cosOne
    ((n * 2 ^ 251 % cosTwoPi) * (n * 2 ^ 251 % cosTwoPi) / cosOne)

/-- The reference `COS32` of a finite value: the nearest binary32 value to the cosine (UNVERIFIED that no binary32 angle
has a cosine within the computation's error of a rounding boundary, log 2; unsafe). -/
def cosReference (x : F32) : F32 :=
  roundQuot (decide (cosFixed (scaled x) < 0)) (cosFixed (scaled x)).natAbs (2 ^ 251)

/-- `COS32` (spec/00_scope.md R14) under the build's choice. The cosine of NaN is NaN (DEDUCED from R19 and the corner
case of spec/41_filters.md R260); the reference names no value for an infinity, which is therefore free (log 3). -/
def cos32 (m : Config.CosineModel) (x : F32) : F32 :=
  if isNaN x then fNaN
  else match m with
    | .reference => if isInf x then fCanon (Config.cosineImpl x) else cosReference x
    | .implementation => fCanon (Config.cosineImpl x)

end Sys2Proof.Machine
end

