-- ==== Sys2Proof/Machine/Biquad.lean ====
section
/-! DEFINITION. The biquad in direct form II and the BQ commands (spec/41_filters.md R260 to R266; the memory and the
sign follow C1 and C2 of spec/90_conflicts.md). The lip filter's embedded biquad uses the same unit operations
(spec/42_nonlinear.md R310, R312). -/

namespace Sys2Proof.Machine

/-- TWO_PI, 0x40C90FDB (spec/00_scope.md R23). -/
def fTwoPi : F32 := 0x40C90FDB#32

/-- 2.0. -/
def fTwo : F32 := 0x40000000#32

/-- `th = fl(fl(TWO_PI × freq) ÷ FS)` (spec/41_filters.md R260). -/
def bqAngle (fs freq : F32) : F32 := fdiv (fmul fTwoPi freq) fs

/-- The pole pair of SETFREQRESON: A1 and A2; B0, B1, B2 and the memory are unchanged (spec/41_filters.md R260). -/
def bqSetFreqReson (m : Config.CosineModel) (fs : F32) (q : Biquad) (freq r : F32) : Biquad :=
  { q with a1 := fmul (fmul fTwo r) (cos32 m (bqAngle fs freq)), a2 := fneg (fmul r r) }

/-- Zeros at +1 and -1 (spec/41_filters.md R261). -/
def bqSetEqualGainZeroes (q : Biquad) : Biquad := { q with b0 := fOne, b1 := fZero, b2 := fMinusOne }

/-- The new memory word `w` of a tick (spec/41_filters.md R262). -/
def bqState (q : Biquad) (x : F32) : F32 := fadd (fadd x (fmul q.a1 q.w1)) (fmul q.a2 q.w2)

/-- The output of a tick (spec/41_filters.md R262). -/
def bqOut (q : Biquad) (x : F32) : F32 :=
  fadd (fadd (fmul q.b0 (bqState q x)) (fmul q.b1 q.w1)) (fmul q.b2 q.w2)

/-- One tick in direct form II (spec/41_filters.md R262). -/
def bqTick (q : Biquad) (x : F32) : Biquad :=
  { q with w2 := q.w1, w1 := bqState q x, last := bqOut q x }

/-- The memory cleared (spec/41_filters.md R263). -/
def bqClear (q : Biquad) : Biquad := { q with w1 := fZero, w2 := fZero, last := fZero }

/-- One coefficient by index: 0 B0, 1 B1, 2 B2, 3 A1, 4 A2; none for another index (spec/41_filters.md R265). -/
def bqSetCoef (q : Biquad) (coef : Nat) (v : F32) : Option Biquad :=
  match coef with
  | 0 => some { q with b0 := v }
  | 1 => some { q with b1 := v }
  | 2 => some { q with b2 := v }
  | 3 => some { q with a1 := v }
  | 4 => some { q with a2 := v }
  | _ => none

/-- The registers of a biquad by index (spec/10_state.md R38, spec/41_filters.md R266). -/
def bqReg (q : Biquad) : Nat → Option Word
  | 0 => some q.b0
  | 1 => some q.b1
  | 2 => some q.b2
  | 3 => some q.a1
  | 4 => some q.a2
  | 5 => some q.w1
  | 6 => some q.w2
  | 7 => some q.last
  | _ => none

/-- `BQ.SETFREQRESON` as a sub-operation (spec/00_scope.md R22). -/
def subBqSetFreqReson (u : Nat) (freq r : F32) (s : State) : State :=
  s.setBq u (bqSetFreqReson s.cosine s.fs (s.bqAt u) freq r)

/-- `BQ.SETCOEF` as a sub-operation; the voice's indices are all listed (spec/00_scope.md R22). -/
def subBqSetCoef (u coef : Nat) (v : F32) (s : State) : State :=
  match bqSetCoef (s.bqAt u) coef v with
  | some q => s.setBq u q
  | none => refuse s

/-- `BQ.TICK` as a sub-operation: the state and y. -/
def subBqTick (u : Nat) (x : F32) (s : State) : State × F32 :=
  (s.setBq u (bqTick (s.bqAt u) x), bqOut (s.bqAt u) x)

/-- `BQ.CLEAR` as a sub-operation. -/
def subBqClear (u : Nat) (s : State) : State := s.setBq u (bqClear (s.bqAt u))

/-- `BQ.SETFREQRESON` (spec/41_filters.md R260). -/
def execBqSetFreqReson (unit : Nat) (freq reson : Word) (s : State) : Host.Outcome State Fault Refusal :=
  command (onUnit s.bq.length unit (subBqSetFreqReson unit (asF32 freq) (asF32 reson))) s

/-- `BQ.SETEQUALGAINZEROES` (spec/41_filters.md R261). -/
def execBqSetEqualGainZeroes (unit : Nat) (s : State) : Host.Outcome State Fault Refusal :=
  command (onUnit s.bq.length unit (fun s => s.setBq unit (bqSetEqualGainZeroes (s.bqAt unit)))) s

/-- `BQ.TICK` (spec/41_filters.md R262). -/
def execBqTick (unit : Nat) (x : Word) (s : State) : Host.Outcome State Fault Refusal :=
  command (onUnit s.bq.length unit (fun s => answerWith (subBqTick unit (asF32 x) s))) s

/-- `BQ.CLEAR` (spec/41_filters.md R263). -/
def execBqClear (unit : Nat) (s : State) : Host.Outcome State Fault Refusal :=
  command (onUnit s.bq.length unit (subBqClear unit)) s

/-- `BQ.LASTOUT` (spec/41_filters.md R264). -/
def execBqLastOut (unit : Nat) (s : State) : Host.Outcome State Fault Refusal :=
  command (onUnit s.bq.length unit (fun s => answer (s.bqAt unit).last s)) s

/-- `BQ.SETCOEF`: an index above 4 is refused (spec/41_filters.md R265). -/
def execBqSetCoef (unit : Nat) (coef : Nat) (v : Word) (s : State) : Host.Outcome State Fault Refusal :=
  command (onUnit s.bq.length unit (subBqSetCoef unit coef (asF32 v))) s

/-- `BQ.RDREG` (spec/41_filters.md R266). -/
def execBqRdReg (unit : Nat) (reg : Nat) (s : State) : Host.Outcome State Fault Refusal :=
  command (onUnit s.bq.length unit (fun s => answerReg (bqReg (s.bqAt unit) reg) s)) s

end Sys2Proof.Machine
end

