-- ==== Sys2Proof/Machine/Bow.lean ====
section
/-! DEFINITION. The bow table and the BOW commands (spec/42_nonlinear.md R300 to R303). -/

namespace Sys2Proof.Machine

/-- `u = fl(fl(dv × SLOPE) + OFFSET)` (spec/42_nonlinear.md R302). -/
def bowArg (q : Bow) (dv : F32) : F32 := fadd (fmul dv q.slope) q.offset

/-- `t = fl(|u| + 0.75)` (spec/42_nonlinear.md R302). -/
def bowBase (q : Bow) (dv : F32) : F32 := fadd (fabs (bowArg q dv)) (fDec 75 100)

/-- `t2 = fl(t × t)` (spec/42_nonlinear.md R302). -/
def bowSquare (q : Bow) (dv : F32) : F32 := fmul (bowBase q dv) (bowBase q dv)

/-- `fl(1.0 ÷ t4)`, before the clamp; the power -4 is two squarings and a reciprocal (spec/42_nonlinear.md R302). -/
def bowRaw (q : Bow) (dv : F32) : F32 := fdiv fOne (fmul (bowSquare q dv) (bowSquare q dv))

/-- The output of a tick, clamped above at 1.0 (spec/42_nonlinear.md R302). -/
def bowOut (q : Bow) (dv : F32) : F32 := if flt fOne (bowRaw q dv) then fOne else bowRaw q dv

/-- `BOW.TICK` on a table: only LAST changes (spec/42_nonlinear.md R302, R317). -/
def bowTick (q : Bow) (dv : F32) : Bow := { q with last := bowOut q dv }

/-- The registers of a table by index (spec/10_state.md R39, spec/42_nonlinear.md R303). -/
def bowReg (q : Bow) : Nat → Option Word
  | 0 => some q.offset
  | 1 => some q.slope
  | 2 => some q.last
  | _ => none

/-- `BOW.SETOFFSET` as a sub-operation (spec/00_scope.md R22). -/
def subBowSetOffset (u : Nat) (v : F32) (s : State) : State :=
  s.setBow u { s.bowAt u with offset := v }

/-- `BOW.SETSLOPE` as a sub-operation. -/
def subBowSetSlope (u : Nat) (v : F32) (s : State) : State :=
  s.setBow u { s.bowAt u with slope := v }

/-- `BOW.TICK` as a sub-operation: the state and y. -/
def subBowTick (u : Nat) (dv : F32) (s : State) : State × F32 :=
  (s.setBow u (bowTick (s.bowAt u) dv), bowOut (s.bowAt u) dv)

/-- `BOW.SETOFFSET` (spec/42_nonlinear.md R300). -/
def execBowSetOffset (unit : Nat) (offset : Word) (s : State) : Host.Outcome State Fault Refusal :=
  command (onUnit s.bow.length unit (subBowSetOffset unit (asF32 offset))) s

/-- `BOW.SETSLOPE` (spec/42_nonlinear.md R301). -/
def execBowSetSlope (unit : Nat) (slope : Word) (s : State) : Host.Outcome State Fault Refusal :=
  command (onUnit s.bow.length unit (subBowSetSlope unit (asF32 slope))) s

/-- `BOW.TICK` (spec/42_nonlinear.md R302). -/
def execBowTick (unit : Nat) (dv : Word) (s : State) : Host.Outcome State Fault Refusal :=
  command (onUnit s.bow.length unit (fun s => answerWith (subBowTick unit (asF32 dv) s))) s

/-- `BOW.RDREG` (spec/42_nonlinear.md R303). -/
def execBowRdReg (unit : Nat) (reg : Nat) (s : State) : Host.Outcome State Fault Refusal :=
  command (onUnit s.bow.length unit (fun s => answerReg (bowReg (s.bowAt unit) reg) s)) s

end Sys2Proof.Machine
end

