-- ==== Sys2Proof/Machine/DelayLine.lean ====
section
/-! DEFINITION. The fractional delay line and the DL commands (spec/40_delay_line.md R200 to R205; the sense of ALPHA
follows C4 and C9 of spec/90_conflicts.md). -/

namespace Sys2Proof.Machine

/-- `(w - n) mod len` for a word index `w` (spec/00_scope.md R20). -/
def backFrom (len w n : Nat) : Nat := (w + (len - n % len)) % len

/-- The largest delay of a line, `f32(L - 1)` (spec/40_delay_line.md R200). -/
def dlMax (len : Nat) : F32 := fOfNat (len - 1)

/-- The requested lag is NaN, negative or above `L - 1` (spec/40_delay_line.md R200). -/
def dlLagOut (len : Nat) (lag : F32) : Bool := isNaN lag || flt lag fZero || flt (dlMax len) lag

/-- The delay in effect: -0.0 as +0.0, NaN and negative as 0.0, too large as `L - 1` (spec/40_delay_line.md R200). -/
def dlLag (len : Nat) (lag : F32) : F32 :=
  if feq lag fZero then fZero
  else if isNaN lag || flt lag fZero then fZero
  else if flt (dlMax len) lag then dlMax len
  else lag

/-- The weight of the sample after RPTR: 0.0 for an integer lag, else `fl(1.0 - f)` (spec/40_delay_line.md R200). -/
def dlAlpha (lag : F32) : F32 :=
  if feq (ffrac lag) fZero then fZero else fsub fOne (ffrac lag)

/-- How far RPTR stands behind WPTR: `n` for an integer lag, else `n + 1` (spec/40_delay_line.md R200). -/
def dlBack (lag : F32) : Nat :=
  if feq (ffrac lag) fZero then ffloor lag else ffloor lag + 1

/-- `DL.SETDELAY` on a line, without its warning (spec/40_delay_line.md R200). -/
def dlSetDelay (d : DelayLine) (lag : F32) : DelayLine :=
  { d with
    rptr := backFrom d.len d.wptr (dlBack (dlLag d.len lag)),
    alpha := dlAlpha (dlLag d.len lag),
    omalpha := fsub fOne (dlAlpha (dlLag d.len lag)),
    lag := dlLag d.len lag }

/-- The buffer after a tick's write, which comes before its reads (spec/40_delay_line.md R201). -/
def dlWritten (d : DelayLine) (x : F32) : Memory := memWrite d.buf d.wptr x

/-- The interpolated output of a tick (spec/40_delay_line.md R201). -/
def dlOut (d : DelayLine) (x : F32) : F32 :=
  fadd (fmul d.omalpha (memRead (dlWritten d x) d.rptr))
    (fmul d.alpha (memRead (dlWritten d x) ((d.rptr + 1) % d.len)))

/-- `DL.TICK` on a line (spec/40_delay_line.md R201). -/
def dlTick (d : DelayLine) (x : F32) : DelayLine :=
  { d with
    buf := dlWritten d x,
    wptr := (d.wptr + 1) % d.len,
    rptr := (d.rptr + 1) % d.len,
    last := dlOut d x }

/-- `DL.CLEAR` on a line (spec/40_delay_line.md R203). -/
def dlClear (d : DelayLine) : DelayLine := { d with buf := memZero, last := fZero }

/-- The registers of a line by index (spec/10_state.md R33, spec/40_delay_line.md R205). -/
def dlReg (d : DelayLine) : Nat → Option Word
  | 0 => some d.lag
  | 1 => some (u32 d.wptr)
  | 2 => some (u32 d.rptr)
  | 3 => some d.alpha
  | 4 => some d.omalpha
  | 5 => some d.last
  | 6 => some (u32 d.len)
  | _ => none

/-- `DL.SETDELAY` as a sub-operation (spec/00_scope.md R22). -/
def subDlSetDelay (u : Nat) (lag : F32) (s : State) : State :=
  raiseIf (dlLagOut (s.dlAt u).len lag) .delayRange (s.setDl u (dlSetDelay (s.dlAt u) lag))

/-- `DL.TICK` as a sub-operation: the state and y. -/
def subDlTick (u : Nat) (x : F32) (s : State) : State × F32 :=
  (s.setDl u (dlTick (s.dlAt u) x), dlOut (s.dlAt u) x)

/-- `DL.CLEAR` as a sub-operation. -/
def subDlClear (u : Nat) (s : State) : State := s.setDl u (dlClear (s.dlAt u))

/-- `DL.SETDELAY` (spec/40_delay_line.md R200). -/
def execDlSetDelay (unit : Nat) (lag : Word) (s : State) : Host.Outcome State Fault Refusal :=
  command (onUnit s.dl.length unit (subDlSetDelay unit (asF32 lag))) s

/-- `DL.TICK` (spec/40_delay_line.md R201). -/
def execDlTick (unit : Nat) (x : Word) (s : State) : Host.Outcome State Fault Refusal :=
  command (onUnit s.dl.length unit (fun s => answerWith (subDlTick unit (asF32 x) s))) s

/-- `DL.LASTOUT` (spec/40_delay_line.md R202). -/
def execDlLastOut (unit : Nat) (s : State) : Host.Outcome State Fault Refusal :=
  command (onUnit s.dl.length unit (fun s => answer (s.dlAt unit).last s)) s

/-- `DL.CLEAR` (spec/40_delay_line.md R203). -/
def execDlClear (unit : Nat) (s : State) : Host.Outcome State Fault Refusal :=
  command (onUnit s.dl.length unit (subDlClear unit)) s

/-- `DL.BUFRD`: an index at or above `L_i` is refused (spec/40_delay_line.md R204). -/
def execDlBufRd (unit : Nat) (k : Word) (s : State) : Host.Outcome State Fault Refusal :=
  command (onUnit s.dl.length unit (fun s =>
    if asU32 k < (s.dlAt unit).len then answer (memRead (s.dlAt unit).buf (asU32 k)) s else refuse s)) s

/-- `DL.RDREG` (spec/40_delay_line.md R205). -/
def execDlRdReg (unit : Nat) (reg : Nat) (s : State) : Host.Outcome State Fault Refusal :=
  command (onUnit s.dl.length unit (fun s => answerReg (dlReg (s.dlAt unit) reg) s)) s

end Sys2Proof.Machine
end

