-- ==== Sys2Proof/Machine/Jet.lean ====
section
/-! DEFINITION. The jet table and the JET commands (spec/42_nonlinear.md R308, R309). -/

namespace Sys2Proof.Machine

/-- The output of a tick: the cubic `x·(x² - 1)` clamped to [-1.0, 1.0] (spec/42_nonlinear.md R308). -/
def jetOut (x : F32) : F32 := fclamp (fmul x (fsub (fmul x x) fOne)) fMinusOne fOne

/-- `JET.TICK` on a table: only LAST changes (spec/42_nonlinear.md R308, R317). -/
def jetTick (q : Jet) (x : F32) : Jet := { q with last := jetOut x }

/-- The registers of a table by index (spec/10_state.md R41, spec/42_nonlinear.md R309). -/
def jetReg (q : Jet) : Nat → Option Word
  | 0 => some q.last
  | _ => none

/-- `JET.TICK` as a sub-operation: the state and y (spec/00_scope.md R22). -/
def subJetTick (u : Nat) (x : F32) (s : State) : State × F32 :=
  (s.setJet u (jetTick (s.jetAt u) x), jetOut x)

/-- `JET.TICK` (spec/42_nonlinear.md R308). -/
def execJetTick (unit : Nat) (x : Word) (s : State) : Host.Outcome State Fault Refusal :=
  command (onUnit s.jet.length unit (fun s => answerWith (subJetTick unit (asF32 x) s))) s

/-- `JET.RDREG` (spec/42_nonlinear.md R309). -/
def execJetRdReg (unit : Nat) (reg : Nat) (s : State) : Host.Outcome State Fault Refusal :=
  command (onUnit s.jet.length unit (fun s => answerReg (jetReg (s.jetAt unit) reg) s)) s

end Sys2Proof.Machine
end

