-- ==== Sys2Proof/Machine/Lip.lean ====
section
/-! DEFINITION. The lip filter and the LIP commands (spec/42_nonlinear.md R310 to R316): an embedded biquad and a
crossfade weighted by its squared output. -/

namespace Sys2Proof.Machine

/-- The embedded filter's output `f` for mouth pressure `m` and bore pressure `b` (spec/42_nonlinear.md R312). -/
def lipFilterOut (q : Lip) (m b : F32) : F32 := bqOut q.filter (fsub m b)

/-- The squared filter output before the clamp (spec/42_nonlinear.md R312). -/
def lipSquare (q : Lip) (m b : F32) : F32 := fmul (lipFilterOut q m b) (lipFilterOut q m b)

/-- The mixing weight `w`, clamped above at 1.0 (spec/42_nonlinear.md R312). -/
def lipWeight (q : Lip) (m b : F32) : F32 := if flt fOne (lipSquare q m b) then fOne else lipSquare q m b

/-- The mixed output: `w` on the mouth input, `1 - w` on the bore (spec/42_nonlinear.md R312). -/
def lipOut (q : Lip) (m b : F32) : F32 :=
  fadd (fmul (lipWeight q m b) m) (fmul (fsub fOne (lipWeight q m b)) b)

/-- `LIP.TICK` on a unit (spec/42_nonlinear.md R312). -/
def lipTick (q : Lip) (m b : F32) : Lip := { filter := bqTick q.filter (fsub m b), last := lipOut q m b }

/-- `LIP.CLEAR` on a unit (spec/42_nonlinear.md R313). -/
def lipClear (q : Lip) : Lip := { filter := bqClear q.filter, last := fZero }

/-- The registers of a unit by index: the embedded biquad's 0..7, then LAST (spec/10_state.md R42,
spec/42_nonlinear.md R316). -/
def lipReg (q : Lip) : Nat → Option Word
  | 0 => some q.filter.b0
  | 1 => some q.filter.b1
  | 2 => some q.filter.b2
  | 3 => some q.filter.a1
  | 4 => some q.filter.a2
  | 5 => some q.filter.w1
  | 6 => some q.filter.w2
  | 7 => some q.filter.last
  | 8 => some q.last
  | _ => none

/-- `LIP.SETFREQRESON` as a sub-operation (spec/00_scope.md R22). -/
def subLipSetFreqReson (u : Nat) (freq r : F32) (s : State) : State :=
  s.setLip u { s.lipAt u with filter := bqSetFreqReson s.cosine s.fs (s.lipAt u).filter freq r }

/-- `LIP.SETCOEF` as a sub-operation; the voice's indices are all listed (spec/00_scope.md R22). -/
def subLipSetCoef (u coef : Nat) (v : F32) (s : State) : State :=
  match bqSetCoef (s.lipAt u).filter coef v with
  | some q => s.setLip u { s.lipAt u with filter := q }
  | none => refuse s

/-- `LIP.TICK` as a sub-operation: the state and y. -/
def subLipTick (u : Nat) (m b : F32) (s : State) : State × F32 :=
  (s.setLip u (lipTick (s.lipAt u) m b), lipOut (s.lipAt u) m b)

/-- `LIP.CLEAR` as a sub-operation. -/
def subLipClear (u : Nat) (s : State) : State := s.setLip u (lipClear (s.lipAt u))

/-- `LIP.SETFREQRESON` (spec/42_nonlinear.md R310). -/
def execLipSetFreqReson (unit : Nat) (freq reson : Word) (s : State) : Host.Outcome State Fault Refusal :=
  command (onUnit s.lip.length unit (subLipSetFreqReson unit (asF32 freq) (asF32 reson))) s

/-- `LIP.SETEQUALGAINZEROES` (spec/42_nonlinear.md R311). -/
def execLipSetEqualGainZeroes (unit : Nat) (s : State) : Host.Outcome State Fault Refusal :=
  command (onUnit s.lip.length unit (fun s =>
    s.setLip unit { s.lipAt unit with filter := bqSetEqualGainZeroes (s.lipAt unit).filter })) s

/-- `LIP.TICK` (spec/42_nonlinear.md R312). -/
def execLipTick (unit : Nat) (mouthP boreP : Word) (s : State) : Host.Outcome State Fault Refusal :=
  command (onUnit s.lip.length unit (fun s => answerWith (subLipTick unit (asF32 mouthP) (asF32 boreP) s))) s

/-- `LIP.CLEAR` (spec/42_nonlinear.md R313). -/
def execLipClear (unit : Nat) (s : State) : Host.Outcome State Fault Refusal :=
  command (onUnit s.lip.length unit (subLipClear unit)) s

/-- `LIP.LASTOUT` (spec/42_nonlinear.md R314). -/
def execLipLastOut (unit : Nat) (s : State) : Host.Outcome State Fault Refusal :=
  command (onUnit s.lip.length unit (fun s => answer (s.lipAt unit).last s)) s

/-- `LIP.SETCOEF`: an index above 4 is refused (spec/42_nonlinear.md R315). -/
def execLipSetCoef (unit : Nat) (coef : Nat) (v : Word) (s : State) : Host.Outcome State Fault Refusal :=
  command (onUnit s.lip.length unit (subLipSetCoef unit coef (asF32 v))) s

/-- `LIP.RDREG` (spec/42_nonlinear.md R316). -/
def execLipRdReg (unit : Nat) (reg : Nat) (s : State) : Host.Outcome State Fault Refusal :=
  command (onUnit s.lip.length unit (fun s => answerReg (lipReg (s.lipAt unit) reg) s)) s

end Sys2Proof.Machine
end

