-- ==== Sys2Proof/Machine/Noise.lean ====
section
/-! DEFINITION. The noise source and the NS commands (spec/44_sources.md R380 to R382). -/

namespace Sys2Proof.Machine

/-- Marsaglia's xorshift32 with shifts 13, 17, 5 (spec/44_sources.md R381). -/
def xorshift32 (x : Word) : Word :=
  let a := x ^^^ (x <<< 13)
  let b := a ^^^ (a >>> 17)
  b ^^^ (b <<< 5)

/-- `fl(f32(int32(x)) × 2^-31)` (spec/44_sources.md R381). -/
def noiseSample (x : Word) : F32 := fmul (fOfInt32 x) 0x30000000#32

/-- A binary32 value with `-1.0 ≤ y ≤ 1.0` (spec/44_sources.md R381). -/
def inUnitRange (y : F32) : Bool := fle fMinusOne y && fle y fOne

/-- The n-th sample under `NOISE_MODEL = DRAW`: any value in [-1.0, 1.0], under no law. The free word where it lies in
the range; a free word outside it stands for 0.0, which is in the range too (spec/44_sources.md R381; log 4). -/
def drawSample (n : Nat) : F32 := if inUnitRange (Config.noiseDraw n) then Config.noiseDraw n else fZero

/-- The state of a noise source after a tick under xorshift32 (spec/44_sources.md R381). -/
def nsTickXorshift (q : Noise) : Noise :=
  { state := xorshift32 q.state, last := noiseSample (xorshift32 q.state) }

/-- The registers of a noise source by index (spec/10_state.md R45, spec/44_sources.md R382). -/
def nsReg (q : Noise) : Nat → Option Word
  | 0 => some q.state
  | 1 => some q.last
  | _ => none

/-- `NS.TICK` as a sub-operation: the state and y (spec/00_scope.md R22, spec/44_sources.md R381). Under DRAW the
generator state is not used. -/
def subNsTick (u : Nat) (s : State) : State × F32 :=
  match s.noise with
  | .xorshift32 => (s.setNs u (nsTickXorshift (s.nsAt u)), (nsTickXorshift (s.nsAt u)).last)
  | .draw =>
    ({ s.setNs u { s.nsAt u with last := drawSample s.drawCount } with drawCount := s.drawCount + 1 },
      drawSample s.drawCount)

/-- `NS.SEED`: seed 0 is replaced by 1 with a warning (spec/44_sources.md R380). -/
def execNsSeed (unit : Nat) (seed : Word) (s : State) : Host.Outcome State Fault Refusal :=
  command (onUnit s.ns.length unit (fun s =>
    raiseIf (seed == 0#32) .paramRange
      (s.setNs unit { s.nsAt unit with state := if seed = 0#32 then 1#32 else seed }))) s

/-- `NS.TICK` (spec/44_sources.md R381). -/
def execNsTick (unit : Nat) (s : State) : Host.Outcome State Fault Refusal :=
  command (onUnit s.ns.length unit (fun s => answerWith (subNsTick unit s))) s

/-- `NS.RDREG` (spec/44_sources.md R382). -/
def execNsRdReg (unit : Nat) (reg : Nat) (s : State) : Host.Outcome State Fault Refusal :=
  command (onUnit s.ns.length unit (fun s => answerReg (nsReg (s.nsAt unit) reg) s)) s

end Sys2Proof.Machine
end

