-- ==== Sys2Proof/Machine/OnePole.lean ====
section
/-! DEFINITION. The one-pole filter and the OP commands (spec/41_filters.md R240 to R245; gain and sign follow C2 and C3
of spec/90_conflicts.md). -/

namespace Sys2Proof.Machine

/-- `fl(GAIN × fl(1.0 - |POLE|))` (spec/41_filters.md R240). -/
def opSgain (gain pole : F32) : F32 := fmul gain (fsub fOne (fabs pole))

/-- `OP.SETPOLE` on a filter (spec/41_filters.md R240). -/
def opSetPole (q : OnePole) (p : F32) : OnePole := { q with pole := p, sgain := opSgain q.gain p }

/-- `OP.SETGAIN` on a filter (spec/41_filters.md R241). -/
def opSetGain (q : OnePole) (g : F32) : OnePole := { q with gain := g, sgain := opSgain g q.pole }

/-- The output of a tick (spec/41_filters.md R242). -/
def opOut (q : OnePole) (x : F32) : F32 := fadd (fmul q.sgain x) (fmul q.pole q.last)

/-- `OP.TICK` on a filter (spec/41_filters.md R242). -/
def opTick (q : OnePole) (x : F32) : OnePole := { q with last := opOut q x }

/-- `OP.CLEAR` on a filter (spec/41_filters.md R243). -/
def opClear (q : OnePole) : OnePole := { q with last := fZero }

/-- The registers of a filter by index (spec/10_state.md R35, spec/41_filters.md R245). -/
def opReg (q : OnePole) : Nat → Option Word
  | 0 => some q.pole
  | 1 => some q.gain
  | 2 => some q.sgain
  | 3 => some q.last
  | _ => none

/-- `OP.SETPOLE` as a sub-operation (spec/00_scope.md R22). -/
def subOpSetPole (u : Nat) (p : F32) (s : State) : State := s.setOp u (opSetPole (s.opAt u) p)

/-- `OP.SETGAIN` as a sub-operation. -/
def subOpSetGain (u : Nat) (g : F32) (s : State) : State := s.setOp u (opSetGain (s.opAt u) g)

/-- `OP.TICK` as a sub-operation: the state and y. -/
def subOpTick (u : Nat) (x : F32) (s : State) : State × F32 :=
  (s.setOp u (opTick (s.opAt u) x), opOut (s.opAt u) x)

/-- `OP.CLEAR` as a sub-operation. -/
def subOpClear (u : Nat) (s : State) : State := s.setOp u (opClear (s.opAt u))

/-- `OP.SETPOLE` (spec/41_filters.md R240). -/
def execOpSetPole (unit : Nat) (p : Word) (s : State) : Host.Outcome State Fault Refusal :=
  command (onUnit s.op.length unit (subOpSetPole unit (asF32 p))) s

/-- `OP.SETGAIN` (spec/41_filters.md R241). -/
def execOpSetGain (unit : Nat) (g : Word) (s : State) : Host.Outcome State Fault Refusal :=
  command (onUnit s.op.length unit (subOpSetGain unit (asF32 g))) s

/-- `OP.TICK` (spec/41_filters.md R242). -/
def execOpTick (unit : Nat) (x : Word) (s : State) : Host.Outcome State Fault Refusal :=
  command (onUnit s.op.length unit (fun s => answerWith (subOpTick unit (asF32 x) s))) s

/-- `OP.CLEAR` (spec/41_filters.md R243). -/
def execOpClear (unit : Nat) (s : State) : Host.Outcome State Fault Refusal :=
  command (onUnit s.op.length unit (subOpClear unit)) s

/-- `OP.LASTOUT` (spec/41_filters.md R244). -/
def execOpLastOut (unit : Nat) (s : State) : Host.Outcome State Fault Refusal :=
  command (onUnit s.op.length unit (fun s => answer (s.opAt unit).last s)) s

/-- `OP.RDREG` (spec/41_filters.md R245). -/
def execOpRdReg (unit : Nat) (reg : Nat) (s : State) : Host.Outcome State Fault Refusal :=
  command (onUnit s.op.length unit (fun s => answerReg (opReg (s.opAt unit) reg) s)) s

end Sys2Proof.Machine
end

