-- ==== Sys2Proof/Machine/OneZero.lean ====
section
/-! DEFINITION. The one-zero filter and the OZ commands (spec/41_filters.md R246 to R251). -/

namespace Sys2Proof.Machine

/-- `fl(GAIN ÷ fl(1.0 + |ZERO|))` (spec/41_filters.md R246). -/
def ozB0 (gain zero : F32) : F32 := fdiv gain (fadd fOne (fabs zero))

/-- `fl((-ZERO) × B0)` (spec/41_filters.md R246). -/
def ozB1 (gain zero : F32) : F32 := fmul (fneg zero) (ozB0 gain zero)

/-- `OZ.SETZERO` on a filter (spec/41_filters.md R246). -/
def ozSetZero (q : OneZero) (z : F32) : OneZero :=
  { q with zero := z, b0 := ozB0 q.gain z, b1 := ozB1 q.gain z }

/-- `OZ.SETGAIN` on a filter (spec/41_filters.md R247). -/
def ozSetGain (q : OneZero) (g : F32) : OneZero :=
  { q with gain := g, b0 := ozB0 g q.zero, b1 := ozB1 g q.zero }

/-- The output of a tick (spec/41_filters.md R248). -/
def ozOut (q : OneZero) (x : F32) : F32 := fadd (fmul q.b0 x) (fmul q.b1 q.x1)

/-- `OZ.TICK` on a filter (spec/41_filters.md R248). -/
def ozTick (q : OneZero) (x : F32) : OneZero := { q with x1 := x, last := ozOut q x }

/-- `OZ.CLEAR` on a filter (spec/41_filters.md R249). -/
def ozClear (q : OneZero) : OneZero := { q with x1 := fZero, last := fZero }

/-- The registers of a filter by index (spec/10_state.md R36, spec/41_filters.md R251). -/
def ozReg (q : OneZero) : Nat → Option Word
  | 0 => some q.zero
  | 1 => some q.gain
  | 2 => some q.b0
  | 3 => some q.b1
  | 4 => some q.x1
  | 5 => some q.last
  | _ => none

/-- `OZ.SETZERO` as a sub-operation (spec/00_scope.md R22). -/
def subOzSetZero (u : Nat) (z : F32) (s : State) : State := s.setOz u (ozSetZero (s.ozAt u) z)

/-- `OZ.SETGAIN` as a sub-operation. -/
def subOzSetGain (u : Nat) (g : F32) (s : State) : State := s.setOz u (ozSetGain (s.ozAt u) g)

/-- `OZ.TICK` as a sub-operation: the state and y. -/
def subOzTick (u : Nat) (x : F32) (s : State) : State × F32 :=
  (s.setOz u (ozTick (s.ozAt u) x), ozOut (s.ozAt u) x)

/-- `OZ.CLEAR` as a sub-operation. -/
def subOzClear (u : Nat) (s : State) : State := s.setOz u (ozClear (s.ozAt u))

/-- `OZ.SETZERO` (spec/41_filters.md R246). -/
def execOzSetZero (unit : Nat) (z : Word) (s : State) : Host.Outcome State Fault Refusal :=
  command (onUnit s.oz.length unit (subOzSetZero unit (asF32 z))) s

/-- `OZ.SETGAIN` (spec/41_filters.md R247). -/
def execOzSetGain (unit : Nat) (g : Word) (s : State) : Host.Outcome State Fault Refusal :=
  command (onUnit s.oz.length unit (subOzSetGain unit (asF32 g))) s

/-- `OZ.TICK` (spec/41_filters.md R248). -/
def execOzTick (unit : Nat) (x : Word) (s : State) : Host.Outcome State Fault Refusal :=
  command (onUnit s.oz.length unit (fun s => answerWith (subOzTick unit (asF32 x) s))) s

/-- `OZ.CLEAR` (spec/41_filters.md R249). -/
def execOzClear (unit : Nat) (s : State) : Host.Outcome State Fault Refusal :=
  command (onUnit s.oz.length unit (subOzClear unit)) s

/-- `OZ.LASTOUT` (spec/41_filters.md R250). -/
def execOzLastOut (unit : Nat) (s : State) : Host.Outcome State Fault Refusal :=
  command (onUnit s.oz.length unit (fun s => answer (s.ozAt unit).last s)) s

/-- `OZ.RDREG` (spec/41_filters.md R251). -/
def execOzRdReg (unit : Nat) (reg : Nat) (s : State) : Host.Outcome State Fault Refusal :=
  command (onUnit s.oz.length unit (fun s => answerReg (ozReg (s.ozAt unit) reg) s)) s

end Sys2Proof.Machine
end

