-- ==== Sys2Proof/Machine/Oscillator.lean ====
section
/-! DEFINITION. The wavetable oscillator and the OSC commands (spec/44_sources.md R383 to R388). -/

namespace Sys2Proof.Machine

/-- `nyq = fl(FS × 0.5)` (spec/44_sources.md R383). -/
def nyquist (fs : F32) : F32 := fmul fs (fDec 5 10)

/-- A frequency that is NaN or beyond ±FS/2 (spec/44_sources.md R383). -/
def oscFreqOut (fs f : F32) : Bool := isNaN f || flt (nyquist fs) f || flt f (fneg (nyquist fs))

/-- The frequency in effect: NaN as 0.0, else clamped to ±FS/2 (spec/44_sources.md R383). -/
def oscFreq (fs f : F32) : F32 :=
  if isNaN f then fZero
  else if flt (nyquist fs) f then nyquist fs
  else if flt f (fneg (nyquist fs)) then fneg (nyquist fs)
  else f

/-- `OSC.SETFREQ` on an oscillator: FREQ and the table entries per sample (spec/44_sources.md R383). -/
def oscSetFreq (fs : F32) (q : Osc) (f : F32) : Osc :=
  { q with freq := oscFreq fs f, rate := fdiv (fmul (fOfNat q.len) (oscFreq fs f)) fs }

/-- `OSC.RESET` on an oscillator (spec/44_sources.md R384). -/
def oscRestart (q : Osc) : Osc := { q with phase := fZero, last := fZero }

/-- The fraction of the phase, `PHASE - f32(k)` (spec/44_sources.md R385). -/
def oscFraction (q : Osc) : F32 := fsub q.phase (fOfNat (ffloor q.phase))

/-- The interpolated table sample at the phase before the step (spec/44_sources.md R385). -/
def oscOut (q : Osc) : F32 :=
  fadd (fmul (fsub fOne (oscFraction q)) (memRead q.tbl (ffloor q.phase % q.len)))
    (fmul (oscFraction q) (memRead q.tbl ((ffloor q.phase + 1) % q.len)))

/-- The first wrap of the phase: down by `T` at or above `T`, up by `T` below 0.0 (spec/44_sources.md R385). -/
def oscWrap (len : Nat) (p : F32) : F32 :=
  if fle (fOfNat len) p then fsub p (fOfNat len)
  else if flt p fZero then fadd p (fOfNat len)
  else p

/-- The phase after the step: wrapped once, and 0.0 where it still is not below `T` (spec/44_sources.md R385). -/
def oscNext (q : Osc) : F32 :=
  if fle (fOfNat q.len) (oscWrap q.len (fadd q.phase q.rate)) then fZero
  else oscWrap q.len (fadd q.phase q.rate)

/-- `OSC.TICK` on an oscillator (spec/44_sources.md R385). -/
def oscTick (q : Osc) : Osc := { q with phase := oscNext q, last := oscOut q }

/-- The registers of an oscillator by index (spec/10_state.md R46, spec/44_sources.md R388). -/
def oscReg (q : Osc) : Nat → Option Word
  | 0 => some q.freq
  | 1 => some q.rate
  | 2 => some q.phase
  | 3 => some q.last
  | 4 => some (u32 q.len)
  | _ => none

/-- `OSC.SETFREQ` as a sub-operation (spec/00_scope.md R22). -/
def subOscSetFreq (u : Nat) (f : F32) (s : State) : State :=
  raiseIf (oscFreqOut s.fs f) .paramRange (s.setOsc u (oscSetFreq s.fs (s.oscAt u) f))

/-- `OSC.RESET` as a sub-operation. -/
def subOscReset (u : Nat) (s : State) : State := s.setOsc u (oscRestart (s.oscAt u))

/-- `OSC.TICK` as a sub-operation: the state and y. -/
def subOscTick (u : Nat) (s : State) : State × F32 :=
  (s.setOsc u (oscTick (s.oscAt u)), oscOut (s.oscAt u))

/-- `OSC.SETFREQ` (spec/44_sources.md R383). -/
def execOscSetFreq (unit : Nat) (f : Word) (s : State) : Host.Outcome State Fault Refusal :=
  command (onUnit s.osc.length unit (subOscSetFreq unit (asF32 f))) s

/-- `OSC.RESET` (spec/44_sources.md R384). -/
def execOscReset (unit : Nat) (s : State) : Host.Outcome State Fault Refusal :=
  command (onUnit s.osc.length unit (subOscReset unit)) s

/-- `OSC.TICK` (spec/44_sources.md R385). -/
def execOscTick (unit : Nat) (s : State) : Host.Outcome State Fault Refusal :=
  command (onUnit s.osc.length unit (fun s => answerWith (subOscTick unit s))) s

/-- `OSC.TBLWR`: an index at or above `OSC_T` is refused (spec/44_sources.md R386). -/
def execOscTblWr (unit : Nat) (idx : Nat) (v : Word) (s : State) : Host.Outcome State Fault Refusal :=
  command (onUnit s.osc.length unit (fun s =>
    if idx < (s.oscAt unit).len then
      s.setOsc unit { s.oscAt unit with tbl := memWrite (s.oscAt unit).tbl idx (asF32 v) }
    else refuse s)) s

/-- `OSC.TBLRD`: an index at or above `OSC_T` is refused (spec/44_sources.md R387). -/
def execOscTblRd (unit : Nat) (idx : Nat) (s : State) : Host.Outcome State Fault Refusal :=
  command (onUnit s.osc.length unit (fun s =>
    if idx < (s.oscAt unit).len then answer (memRead (s.oscAt unit).tbl idx) s else refuse s)) s

/-- `OSC.RDREG` (spec/44_sources.md R388). -/
def execOscRdReg (unit : Nat) (reg : Nat) (s : State) : Host.Outcome State Fault Refusal :=
  command (onUnit s.osc.length unit (fun s => answerReg (oscReg (s.oscAt unit) reg) s)) s

end Sys2Proof.Machine
end

