-- ==== Sys2Proof/Machine/PoleZero.lean ====
section
/-! DEFINITION. The pole-zero filter and the PZ commands (spec/41_filters.md R252 to R259; the sign follows C2 of
spec/90_conflicts.md). -/

namespace Sys2Proof.Machine

/-- `PZ.SETA1` on a filter (spec/41_filters.md R252). -/
def pzSetA1 (q : PoleZero) (v : F32) : PoleZero := { q with a1 := v }

/-- `PZ.SETB0` on a filter (spec/41_filters.md R253). -/
def pzSetB0 (q : PoleZero) (v : F32) : PoleZero := { q with b0 := v }

/-- `PZ.SETB1` on a filter (spec/41_filters.md R254). -/
def pzSetB1 (q : PoleZero) (v : F32) : PoleZero := { q with b1 := v }

/-- `PZ.SETBLOCKZERO` on a filter: zero at 1, pole at `p` (spec/41_filters.md R255). -/
def pzSetBlockZero (q : PoleZero) (p : F32) : PoleZero := { q with b0 := fOne, b1 := fMinusOne, a1 := p }

/-- The output of a tick (spec/41_filters.md R256). -/
def pzOut (q : PoleZero) (x : F32) : F32 :=
  fadd (fadd (fmul q.b0 x) (fmul q.b1 q.x1)) (fmul q.a1 q.last)

/-- `PZ.TICK` on a filter (spec/41_filters.md R256). -/
def pzTick (q : PoleZero) (x : F32) : PoleZero := { q with x1 := x, last := pzOut q x }

/-- `PZ.CLEAR` on a filter (spec/41_filters.md R257). -/
def pzClear (q : PoleZero) : PoleZero := { q with x1 := fZero, last := fZero }

/-- The registers of a filter by index (spec/10_state.md R37, spec/41_filters.md R259). -/
def pzReg (q : PoleZero) : Nat → Option Word
  | 0 => some q.a1
  | 1 => some q.b0
  | 2 => some q.b1
  | 3 => some q.x1
  | 4 => some q.last
  | _ => none

/-- `PZ.SETBLOCKZERO` as a sub-operation (spec/00_scope.md R22). -/
def subPzSetBlockZero (u : Nat) (p : F32) (s : State) : State := s.setPz u (pzSetBlockZero (s.pzAt u) p)

/-- `PZ.TICK` as a sub-operation: the state and y. -/
def subPzTick (u : Nat) (x : F32) (s : State) : State × F32 :=
  (s.setPz u (pzTick (s.pzAt u) x), pzOut (s.pzAt u) x)

/-- `PZ.CLEAR` as a sub-operation. -/
def subPzClear (u : Nat) (s : State) : State := s.setPz u (pzClear (s.pzAt u))

/-- `PZ.SETA1` (spec/41_filters.md R252). -/
def execPzSetA1 (unit : Nat) (a1 : Word) (s : State) : Host.Outcome State Fault Refusal :=
  command (onUnit s.pz.length unit (fun s => s.setPz unit (pzSetA1 (s.pzAt unit) (asF32 a1)))) s

/-- `PZ.SETB0` (spec/41_filters.md R253). -/
def execPzSetB0 (unit : Nat) (b0 : Word) (s : State) : Host.Outcome State Fault Refusal :=
  command (onUnit s.pz.length unit (fun s => s.setPz unit (pzSetB0 (s.pzAt unit) (asF32 b0)))) s

/-- `PZ.SETB1` (spec/41_filters.md R254). -/
def execPzSetB1 (unit : Nat) (b1 : Word) (s : State) : Host.Outcome State Fault Refusal :=
  command (onUnit s.pz.length unit (fun s => s.setPz unit (pzSetB1 (s.pzAt unit) (asF32 b1)))) s

/-- `PZ.SETBLOCKZERO` (spec/41_filters.md R255). -/
def execPzSetBlockZero (unit : Nat) (p : Word) (s : State) : Host.Outcome State Fault Refusal :=
  command (onUnit s.pz.length unit (subPzSetBlockZero unit (asF32 p))) s

/-- `PZ.TICK` (spec/41_filters.md R256). -/
def execPzTick (unit : Nat) (x : Word) (s : State) : Host.Outcome State Fault Refusal :=
  command (onUnit s.pz.length unit (fun s => answerWith (subPzTick unit (asF32 x) s))) s

/-- `PZ.CLEAR` (spec/41_filters.md R257). -/
def execPzClear (unit : Nat) (s : State) : Host.Outcome State Fault Refusal :=
  command (onUnit s.pz.length unit (subPzClear unit)) s

/-- `PZ.LASTOUT` (spec/41_filters.md R258). -/
def execPzLastOut (unit : Nat) (s : State) : Host.Outcome State Fault Refusal :=
  command (onUnit s.pz.length unit (fun s => answer (s.pzAt unit).last s)) s

/-- `PZ.RDREG` (spec/41_filters.md R259). -/
def execPzRdReg (unit : Nat) (reg : Nat) (s : State) : Host.Outcome State Fault Refusal :=
  command (onUnit s.pz.length unit (fun s => answerReg (pzReg (s.pzAt unit) reg) s)) s

end Sys2Proof.Machine
end

