-- ==== Sys2Proof/Machine/Reed.lean ====
section
/-! DEFINITION. The reed table and the REED commands (spec/42_nonlinear.md R304 to R307). -/

namespace Sys2Proof.Machine

/-- The output of a tick: the linear map clamped to [-1.0, 1.0] (spec/42_nonlinear.md R306). -/
def reedOut (q : Reed) (dp : F32) : F32 := fclamp (fadd q.offset (fmul q.slope dp)) fMinusOne fOne

/-- `REED.TICK` on a table: only LAST changes (spec/42_nonlinear.md R306, R317). -/
def reedTick (q : Reed) (dp : F32) : Reed := { q with last := reedOut q dp }

/-- The registers of a table by index (spec/10_state.md R40, spec/42_nonlinear.md R307). -/
def reedReg (q : Reed) : Nat → Option Word
  | 0 => some q.offset
  | 1 => some q.slope
  | 2 => some q.last
  | _ => none

/-- `REED.SETOFFSET` as a sub-operation (spec/00_scope.md R22). -/
def subReedSetOffset (u : Nat) (v : F32) (s : State) : State :=
  s.setReed u { s.reedAt u with offset := v }

/-- `REED.SETSLOPE` as a sub-operation. -/
def subReedSetSlope (u : Nat) (v : F32) (s : State) : State :=
  s.setReed u { s.reedAt u with slope := v }

/-- `REED.TICK` as a sub-operation: the state and y. -/
def subReedTick (u : Nat) (dp : F32) (s : State) : State × F32 :=
  (s.setReed u (reedTick (s.reedAt u) dp), reedOut (s.reedAt u) dp)

/-- `REED.SETOFFSET` (spec/42_nonlinear.md R304). -/
def execReedSetOffset (unit : Nat) (offset : Word) (s : State) : Host.Outcome State Fault Refusal :=
  command (onUnit s.reed.length unit (subReedSetOffset unit (asF32 offset))) s

/-- `REED.SETSLOPE` (spec/42_nonlinear.md R305). -/
def execReedSetSlope (unit : Nat) (slope : Word) (s : State) : Host.Outcome State Fault Refusal :=
  command (onUnit s.reed.length unit (subReedSetSlope unit (asF32 slope))) s

/-- `REED.TICK` (spec/42_nonlinear.md R306). -/
def execReedTick (unit : Nat) (dp : Word) (s : State) : Host.Outcome State Fault Refusal :=
  command (onUnit s.reed.length unit (fun s => answerWith (subReedTick unit (asF32 dp) s))) s

/-- `REED.RDREG` (spec/42_nonlinear.md R307). -/
def execReedRdReg (unit : Nat) (reg : Nat) (s : State) : Host.Outcome State Fault Refusal :=
  command (onUnit s.reed.length unit (fun s => answerReg (reedReg (s.reedAt unit) reg) s)) s

end Sys2Proof.Machine
end

