-- ==== Sys2Proof/Machine/System.lean ====
section
/-! DEFINITION. The system commands (spec/48_system.md R500 to R503) and the system registers (spec/10_state.md R51 to
R58). -/

namespace Sys2Proof.Machine

/-- SYS.ID (spec/10_state.md R56). -/
def sysId : Word := 0x53574701#32

/-- Four counts in one word, the first in bits 7:0 (spec/10_state.md R57). -/
def configWord (c0 c1 c2 c3 : Nat) : Word :=
  BitVec.ofNat 8 c3 ++ BitVec.ofNat 8 c2 ++ BitVec.ofNat 8 c1 ++ BitVec.ofNat 8 c0

/-- The system registers by index (spec/10_state.md R51, spec/48_system.md R502). -/
def sysReg (s : State) : Nat → Option Word
  | 0 => some sysId
  | 1 => some (s.status.zeroExtend 32)
  | 2 => some (s.irqEn.zeroExtend 32)
  | 3 => some (s.lastWarn.zeroExtend 32)
  | 4 => some s.tickCount
  | 5 => some (configWord s.dl.length s.op.length s.oz.length s.pz.length)
  | 6 => some (configWord s.bq.length s.bow.length s.reed.length s.jet.length)
  | 7 => some (configWord s.lip.length s.env.length s.adsr.length s.ns.length)
  | 8 => some (configWord s.osc.length 0 0 0)
  | 9 => some s.fs
  | _ => none

/-- The write of a system register: STATUS by write-1-to-clear, IRQ_EN bits 7:0, TICK_COUNT; every other index is refused
(spec/48_system.md R503). -/
def sysWrite (reg : Nat) (v : Word) (s : State) : State :=
  match reg with
  | 1 => { s with status := s.status &&& ~~~(v.truncate 8) }
  | 2 => { s with irqEn := v.truncate 8 }
  | 4 => { s with tickCount := v }
  | _ => refuse s

/-- `SYS.NOP` (spec/48_system.md R500). -/
def execSysNop (s : State) : Host.Outcome State Fault Refusal := command (fun s => s) s

/-- `SYS.RESET`: every piece of state at its reset value, and the response with R 0 and WARN 0x00
(spec/48_system.md R501, spec/70_reset_and_hazards.md R572). -/
def execSysReset (s : State) : Host.Outcome State Fault Refusal := command restart s

/-- `SYS.RDREG` (spec/48_system.md R502). -/
def execSysRdReg (reg : Nat) (s : State) : Host.Outcome State Fault Refusal :=
  command (fun s => answerReg (sysReg s reg) s) s

/-- `SYS.WRREG` (spec/48_system.md R503). -/
def execSysWrReg (reg : Nat) (v : Word) (s : State) : Host.Outcome State Fault Refusal :=
  command (sysWrite reg v) s

end Sys2Proof.Machine
end

