-- ==== Sys2Proof/Machine/Voice.lean ====
section
/-! DEFINITION. The voice: the frequency contract, the excitation, the five loop bodies and the VOICE commands
(spec/45_voice.md R420 to R439, spec/46_voice_topologies.md R470 to R476). Every sample is computed by sub-operations on
the unit instances of R420; a rule's steps run in the order written. -/

namespace Sys2Proof.Machine

/-! ## The frequency contract -/

/-- `Distribute(D)`: Bowed and Flute split the delay by RATIO over DL0 and DL1, the others put the share RATIO in DL0
(spec/45_voice.md R426). -/
def distribute (d : F32) (s : State) : State :=
  match s.voice.instr with
  | .bowed | .flute =>
    subDlSetDelay 1 (fmul d s.voice.ratio)
      (subDlSetDelay 0 (fmul d (fsub fOne s.voice.ratio)) s)
  | .clarinet | .brass | .plucked | .none => subDlSetDelay 0 (fmul d s.voice.ratio) s

/-- The frequency in effect: DEFAULT_FREQ unless `f > 0.0` (spec/45_voice.md R425). -/
def voiceFreq (v : Voice) (f : F32) : F32 := if flt fZero f then f else v.defaultFreq

/-- `D = fl(fl(FS ÷ f) - COMP)`, before the clamps (spec/45_voice.md R425). -/
def loopDelay (fs : F32) (v : Voice) (f : F32) : F32 := fsub (fdiv fs f) v.comp

/-- The loop delay is NaN, below MIN_DELAY, or above `max` (spec/45_voice.md R425). -/
def loopDelayOut (max : F32) (v : Voice) (d : F32) : Bool := isNaN d || flt d v.minDelay || flt max d

/-- The loop delay clamped to [MIN_DELAY, `max`] (spec/45_voice.md R425). -/
def loopDelayClamped (max : F32) (v : Voice) (d : F32) : F32 :=
  if isNaN d || flt d v.minDelay then v.minDelay else if flt max d then max else d

/-- FREQ and BASE_DELAY for the frequency in effect, `max` being `f32(L_0 - 1)` (spec/45_voice.md R425). -/
def voiceTuned (fs max : F32) (v : Voice) (f : F32) : Voice :=
  { v with freq := voiceFreq v f, baseDelay := loopDelayClamped max v (loopDelay fs v (voiceFreq v f)) }

/-- `SetFreq(f)` (spec/45_voice.md R425). The lines keep their lengths, so `f32(L_0 - 1)` is that of the state before. -/
def setFreq (f : F32) (s : State) : State :=
  let max := dlMax (s.dlAt 0).len
  let g := voiceFreq s.voice f
  let d := loopDelay s.fs s.voice g
  let s := raiseIf (!flt fZero f) .freqRange s
  let s := raiseIf (loopDelayOut max s.voice d) .delayRange s
  let s := s.setVoice (voiceTuned s.fs max s.voice f)
  let s := distribute s.voice.baseDelay s
  if s.voice.instr = .brass then subLipSetFreqReson 0 g s.voice.lipReson s else s

/-! ## The excitation and the loop bodies -/

/-- The excitation of one sample: envelope `e`, vibrato `v`, breath or mouth pressure `p` (spec/45_voice.md R431). -/
structure Excitation where
  e : F32
  v : F32
  p : F32
deriving DecidableEq, Repr

/-- `p = fl(e + fl(e × q))` with `q = fl(fl(NOISE_GAIN × n) + fl(VIB_GAIN × v))` (spec/45_voice.md R431). -/
def pressure (w : Voice) (e n v : F32) : F32 :=
  fadd e (fmul e (fadd (fmul w.noiseGain n) (fmul w.vibGain v)))

/-- `Exc()`: ENV0, NS0 and OSC0 are each ticked once (spec/45_voice.md R431). -/
def excite (s : State) : State × Excitation :=
  let env := subEnvTick 0 s
  let ns := subNsTick 0 env.1
  let osc := subOscTick 0 ns.1
  (osc.1, { e := env.2, v := osc.2, p := pressure s.voice env.2 ns.2 osc.2 })

/-- The nut-side delay under vibrato (spec/46_voice_topologies.md R470). -/
def bowedDelay (w : Voice) (v : F32) : F32 :=
  fadd (fmul w.baseDelay (fsub fOne w.ratio)) (fmul (fmul w.baseDelay w.vibGain) v)

/-- The Bowed loop body (spec/46_voice_topologies.md R470). -/
def loopBowed (s : State) : State × F32 :=
  let x := excite s
  let loss := subOpTick 0 (x.1.dlAt 1).last x.1
  let bridge := fneg loss.2
  let nut := fneg (loss.1.dlAt 0).last
  let dv := fsub x.2.e (fadd bridge nut)
  let bow := subBowTick 0 dv loss.1
  let nv := fmul dv bow.2
  let s0 := (subDlTick 0 (fadd bridge nv) bow.1).1
  let s1 := (subDlTick 1 (fadd nut nv) s0).1
  let s2 := if flt fZero s1.voice.vibGain then subDlSetDelay 0 (bowedDelay s1.voice x.2.v) s1 else s1
  let body := subBqTick 0 (s2.dlAt 1).last s2
  (body.1, fmul s2.voice.outGain body.2)

/-- The Clarinet loop body (spec/46_voice_topologies.md R471). -/
def loopClarinet (s : State) : State × F32 :=
  let x := excite s
  let r := subOzTick 0 (x.1.dlAt 0).last x.1
  let pd := fsub (fneg r.2) x.2.p
  let reed := subReedTick 0 pd r.1
  let bore := subDlTick 0 (fadd x.2.p (fmul pd reed.2)) reed.1
  (bore.1, fmul s.voice.outGain bore.2)

/-- The Flute loop body: the DC blocker in the loop, the jet line before the bore line (spec/46_voice_topologies.md R472;
C5 of spec/90_conflicts.md). -/
def loopFlute (s : State) : State × F32 :=
  let x := excite s
  let loss := subOpTick 0 (x.1.dlAt 0).last x.1
  let t := subPzTick 0 loss.2 loss.1
  let pd := fsub x.2.p (fmul s.voice.reflA t.2)
  let j := subDlTick 1 pd t.1
  let jet := subJetTick 0 j.2 j.1
  let bore := subDlTick 0 (fadd jet.2 (fmul s.voice.reflB t.2)) jet.1
  (bore.1, fmul s.voice.outGain bore.2)

/-- The Brass loop body (spec/46_voice_topologies.md R473). -/
def loopBrass (s : State) : State × F32 :=
  let x := excite s
  let b := fmul s.voice.reflA (x.1.dlAt 0).last
  let lip := subLipTick 0 x.2.p b x.1
  let bore := subDlTick 0 lip.2 lip.1
  let out := subPzTick 0 bore.2 bore.1
  (out.1, fmul s.voice.outGain out.2)

/-- The Plucked loop body: no excitation unit is ticked (spec/46_voice_topologies.md R474). -/
def loopPlucked (s : State) : State × F32 :=
  let loop := subOzTick 0 (fmul s.voice.loopGain (s.dlAt 0).last) s
  let line := subDlTick 0 loop.2 loop.1
  (line.1, fmul s.voice.outGain line.2)

/-- `LoopBody(INSTR)` (spec/45_voice.md R430). No command runs it with INSTR = NONE (R438). -/
def loopBody (s : State) : State × F32 :=
  match s.voice.instr with
  | .bowed => loopBowed s
  | .clarinet => loopClarinet s
  | .flute => loopFlute s
  | .brass => loopBrass s
  | .plucked => loopPlucked s
  | .none => (s, fZero)

/-- One tick of the pluck fill: filtered noise into the string (spec/46_voice_topologies.md R475). -/
def pluckTick (s : State) : State :=
  let n := subNsTick 0 s
  let x := subOpTick 1 n.2 n.1
  (subDlTick 0 x.2 x.1).1

/-- `n` ticks of the pluck fill. -/
def pluckTicks : Nat → State → State
  | 0, s => s
  | n + 1, s => pluckTicks n (pluckTick s)

/-- `PluckFill(amp)`: all `L_0` words refilled (spec/46_voice_topologies.md R475). -/
def pluckFill (amp : F32) (s : State) : State :=
  let s := subOpSetPole 1 (fsub (fDec 999 1000) (fmul (fDec 15 100) amp)) s
  let s := subOpSetGain 1 (fmul (fDec 5 10) amp) s
  pluckTicks (s.dlAt 0).len s

/-! ## Control values -/

/-- An amplitude or controller value that is NaN or outside [0, 1] (spec/45_voice.md R428, R432). -/
def unitOut (v : F32) : Bool := isNaN v || flt v fZero || flt fOne v

/-- The value clamped to [0, 1], NaN as 0.0 (spec/45_voice.md R428, R432). -/
def unitClamp (v : F32) : F32 :=
  if isNaN v || flt v fZero then fZero else if flt fOne v then fOne else v

/-! ## Instrument selection -/

/-- The parameter registers 8..23 of an instrument (spec/45_voice.md R424). -/
def voiceDefaults (v : Voice) : Instrument → Voice
  | .bowed =>
    { v with
             comp := fDec 4 1, ratio := fDec 127236 1000000, minDelay := fOne, defaultFreq := fDec 220 1,
             outGain := fOne, excOffset := fDec 3 100, excScale := fDec 2 10, attackRate := fDec 1 1000,
             releaseScale := fDec 1 100, noiseGain := fZero, vibGain := fZero, reflA := fZero,
             reflB := fZero, loopGain := fZero, loopGainOn := fZero, lipReson := fZero }
  | .clarinet =>
    { v with
             comp := fDec 3 1, ratio := fDec 5 10, minDelay := fOne, defaultFreq := fDec 220 1,
             outGain := fOne, excOffset := fDec 55 100, excScale := fDec 3 10, attackRate := fDec 5 1000,
             releaseScale := fDec 1 100, noiseGain := fDec 2 10, vibGain := fDec 1 10, reflA := fZero,
             reflB := fZero, loopGain := fZero, loopGainOn := fZero, lipReson := fZero }
  | .flute =>
    { v with
             comp := fDec 2 1, ratio := fDec 32 100, minDelay := fOne, defaultFreq := fDec 220 1,
             outGain := fDec 3 10, excOffset := fDec 11 10, excScale := fDec 2 10, attackRate := fDec 5 1000,
             releaseScale := fDec 1 100, noiseGain := fDec 15 100, vibGain := fDec 5 100, reflA := fDec 5 10,
             reflB := fDec 5 10, loopGain := fZero, loopGainOn := fZero, lipReson := fZero }
  | .brass =>
    { v with
             comp := fZero, ratio := fOne, minDelay := fOne, defaultFreq := fDec 220 1,
             outGain := fOne, excOffset := fZero, excScale := fDec 3 10, attackRate := fDec 5 1000,
             releaseScale := fDec 1 100, noiseGain := fZero, vibGain := fZero, reflA := fDec 85 100,
             reflB := fZero, loopGain := fZero, loopGainOn := fZero, lipReson := fDec 997 1000 }
  | .plucked =>
    { v with
             comp := fDec 5 10, ratio := fOne, minDelay := fOne, defaultFreq := fDec 220 1,
             outGain := fOne, excOffset := fZero, excScale := fZero, attackRate := fZero,
             releaseScale := fZero, noiseGain := fZero, vibGain := fZero, reflA := fZero,
             reflB := fZero, loopGain := fDec 996 1000, loopGainOn := fDec 996 1000, lipReson := fZero }
  | .none => v

/-- The unit configuration of an instrument, in the order of spec/45_voice.md R424. -/
def configureUnits (i : Instrument) (s : State) : State :=
  match i with
  | .bowed =>
    let s := subOpSetGain 0 (fDec 95 100) s
    let s := subOpSetPole 0 (fDec 55 100) s
    let s := subBqSetFreqReson 0 (fDec 500 1) (fDec 85 100) s
    let s := subBqSetCoef 0 0 (fDec 2 10) s
    let s := subBqSetCoef 0 1 fZero s
    let s := subBqSetCoef 0 2 (fDecNeg 2 10) s
    let s := subBowSetOffset 0 fZero s
    let s := subBowSetSlope 0 (fDec 3 1) s
    subOscSetFreq 0 (fDec 612723 100000) s
  | .clarinet =>
    let s := subOzSetGain 0 (fDec 95 100) s
    let s := subOzSetZero 0 fMinusOne s
    let s := subReedSetOffset 0 (fDec 7 10) s
    let s := subReedSetSlope 0 (fDecNeg 3 10) s
    subOscSetFreq 0 (fDec 5735 1000) s
  | .flute =>
    let s := subOpSetGain 0 fMinusOne s
    let s := subOpSetPole 0 (fDec 65 100) s
    let s := subPzSetBlockZero 0 (fDec 99 100) s
    subOscSetFreq 0 (fDec 5925 1000) s
  | .brass =>
    let s := subLipSetCoef 0 0 (fDec 1 10) s
    let s := subLipSetCoef 0 1 fZero s
    let s := subLipSetCoef 0 2 (fDecNeg 1 10) s
    let s := subPzSetBlockZero 0 (fDec 99 100) s
    subOscSetFreq 0 (fDec 6137 1000) s
  | .plucked =>
    let s := subOzSetGain 0 fOne s
    subOzSetZero 0 fMinusOne s
  | .none => s

/-- The voice registers a reset of the voice writes: VSTATE, AMP, LAST and, for Plucked, LOOP_GAIN
(spec/45_voice.md R434). -/
def voiceSilenced (v : Voice) : Voice :=
  { v with vstate := .idle, amp := fZero, last := fZero,
           loopGain := if v.instr = .plucked then v.loopGainOn else v.loopGain }

/-- `VoiceReset()` (spec/45_voice.md R434). -/
def voiceReset (s : State) : State :=
  let s := subDlClear 0 s
  let s := subDlClear 1 s
  let s := subOpClear 0 s
  let s := subOpClear 1 s
  let s := subOzClear 0 s
  let s := subPzClear 0 s
  let s := subBqClear 0 s
  let s := subLipClear 0 s
  let s := subEnvSetValue 0 fZero s
  let s := subOscReset 0 s
  s.setVoice (voiceSilenced s.voice)

/-- `V.SETINSTR` for an instrument that exists (spec/45_voice.md R423). -/
def selectInstrument (i : Instrument) (s : State) : State :=
  let s := s.setVoice (voiceDefaults { s.voice with instr := i } i)
  let s := configureUnits i s
  let s := voiceReset s
  setFreq s.voice.defaultFreq s

/-! ## Notes, ticks and controllers -/

/-- The excitation target of a note, `fl(EXC_OFFSET + fl(EXC_SCALE × amp))` (spec/45_voice.md R428). -/
def noteTarget (v : Voice) (amp : F32) : F32 := fadd v.excOffset (fmul v.excScale amp)

/-- The excitation of a note-on: the pluck fill, or the envelope sent to its target (spec/45_voice.md R428). -/
def startExcitation (amp : F32) (s : State) : State :=
  if s.voice.instr = .plucked then
    pluckFill amp (s.setVoice { s.voice with loopGain := s.voice.loopGainOn })
  else
    subEnvSetTarget 0 (noteTarget s.voice amp) (subEnvSetRate 0 s.voice.attackRate s)

/-- `V.NOTEON`'s rule for operands read as binary32 (spec/45_voice.md R428). -/
def noteOn (f amp : F32) (s : State) : State :=
  let a := unitClamp amp
  let s := raiseIf (unitOut amp) .ampRange s
  let s := s.setVoice { s.voice with amp := a }
  let s := setFreq f s
  let s := startExcitation a s
  s.setVoice { s.voice with vstate := .sounding }

/-- The damping of a note-off: the Plucked loop gain, or the envelope sent to 0.0 at the release rate
(spec/45_voice.md R429). -/
def releaseExcitation (amp : F32) (s : State) : State :=
  if s.voice.instr = .plucked then s.setVoice { s.voice with loopGain := fsub fOne amp }
  else subEnvSetTarget 0 fZero (subEnvSetRate 0 (fmul s.voice.releaseScale amp) s)

/-- `V.NOTEOFF`'s rule (spec/45_voice.md R429). -/
def noteOff (amp : F32) (s : State) : State :=
  let s := raiseIf (unitOut amp) .ampRange s
  let s := releaseExcitation (unitClamp amp) s
  if s.voice.vstate = .sounding then s.setVoice { s.voice with vstate := .releasing } else s

/-- The released voice's excitation has ended: ENV0 DONE at 0.0, not for Plucked (spec/45_voice.md R439). -/
def releaseDone (s : State) : Bool :=
  decide (s.voice.vstate = .releasing) && decide (s.voice.instr ≠ .plucked) &&
    decide ((s.envAt 0).state = .done) && feq (s.envAt 0).value fZero

/-- `ReleaseCheck()` (spec/45_voice.md R439). -/
def releaseCheck (s : State) : State :=
  if releaseDone s then s.setVoice { s.voice with vstate := .idle } else s

/-- `V.TICK`'s rule (spec/45_voice.md R430). -/
def voiceTick (s : State) : State :=
  let r := loopBody s
  let s := r.1.setVoice { r.1.voice with last := r.2 }
  let s := { s with tickCount := s.tickCount + 1#32 }
  answer r.2 (releaseCheck s)

/-- Vibrato depth: `VIB_GAIN ← fl(k·v)` (spec/45_voice.md R433). -/
def ccVibrato (k v : F32) (s : State) : State := s.setVoice { s.voice with vibGain := fmul k v }

/-- Noise depth: `NOISE_GAIN ← fl(0.4·v)` (spec/45_voice.md R433). -/
def ccNoise (v : F32) (s : State) : State := s.setVoice { s.voice with noiseGain := fmul (fDec 4 10) v }

/-- Bow position: RATIO, and the current BASE_DELAY distributed at once (spec/45_voice.md R433). -/
def ccPosition (v : F32) (s : State) : State :=
  let s := s.setVoice { s.voice with ratio := fadd (fDec 27236 1000000) (fmul (fDec 2 10) v) }
  distribute s.voice.baseDelay s

/-- Vibrato rate: `OSC.SETFREQ u0 a=fl(12.0·v)` (spec/45_voice.md R433). -/
def ccRate (v : F32) (s : State) : State := subOscSetFreq 0 (fmul (fDec 12 1) v) s

/-- The controller map: the action of a controller for an instrument, none where the pair is unknown
(spec/45_voice.md R433). -/
def ccAction (i : Instrument) (num : Nat) : Option (F32 → State → State) :=
  match i, num with
  | .bowed, 1 => some (ccVibrato (fDec 4 10))
  | .bowed, 2 => some (fun v => subBowSetSlope 0 (fsub (fDec 5 1) (fmul (fDec 4 1) v)))
  | .bowed, 4 => some ccPosition
  | .bowed, 11 => some ccRate
  | .clarinet, 1 => some (ccVibrato (fDec 5 10))
  | .clarinet, 2 => some (fun v => subReedSetSlope 0 (fadd (fDecNeg 44 100) (fmul (fDec 26 100) v)))
  | .clarinet, 4 => some ccNoise
  | .clarinet, 11 => some ccRate
  | .flute, 1 => some (ccVibrato (fDec 4 10))
  | .flute, 4 => some ccNoise
  | .flute, 11 => some ccRate
  | .brass, 1 => some (ccVibrato (fDec 4 10))
  | .brass, 11 => some ccRate
  | _, _ => none

/-- `V.CC`'s rule: an unknown pair changes nothing but the warning state (spec/45_voice.md R432). -/
def controlChange (num : Nat) (v : F32) (s : State) : State :=
  match ccAction s.voice.instr num with
  | none => raise .ctrlUnknown s
  | some act => act (unitClamp v) (raiseIf (unitOut v) .ctrlRange s)

/-! ## Registers -/

/-- The voice registers by index (spec/10_state.md R48, R49; spec/45_voice.md R436). -/
def voiceReg (v : Voice) : Nat → Option Word
  | 0 => some (u32 (instrCode v.instr))
  | 1 => some (u32 (vstateCode v.vstate))
  | 2 => some v.freq
  | 3 => some v.amp
  | 4 => some v.baseDelay
  | 5 => some v.last
  | 8 => some v.comp
  | 9 => some v.ratio
  | 10 => some v.minDelay
  | 11 => some v.defaultFreq
  | 12 => some v.outGain
  | 13 => some v.excOffset
  | 14 => some v.excScale
  | 15 => some v.attackRate
  | 16 => some v.releaseScale
  | 17 => some v.noiseGain
  | 18 => some v.vibGain
  | 19 => some v.reflA
  | 20 => some v.reflB
  | 21 => some v.loopGain
  | 22 => some v.loopGainOn
  | 23 => some v.lipReson
  | _ => none

/-- A parameter register written; none for a status register or an unlisted index (spec/45_voice.md R437). -/
def voiceSet (v : Voice) (reg : Nat) (x : F32) : Option Voice :=
  match reg with
  | 8 => some { v with comp := x }
  | 9 => some { v with ratio := x }
  | 10 => some { v with minDelay := x }
  | 11 => some { v with defaultFreq := x }
  | 12 => some { v with outGain := x }
  | 13 => some { v with excOffset := x }
  | 14 => some { v with excScale := x }
  | 15 => some { v with attackRate := x }
  | 16 => some { v with releaseScale := x }
  | 17 => some { v with noiseGain := x }
  | 18 => some { v with vibGain := x }
  | 19 => some { v with reflA := x }
  | 20 => some { v with reflB := x }
  | 21 => some { v with loopGain := x }
  | 22 => some { v with loopGainOn := x }
  | 23 => some { v with lipReson := x }
  | _ => none

/-! ## The VOICE commands -/

/-- `V.NOTEON` (spec/45_voice.md R428). -/
def execVNoteOn (f amp : Word) (s : State) : Host.Outcome State Fault Refusal :=
  command (onVoice (noteOn (asF32 f) (asF32 amp))) s

/-- `V.NOTEOFF` (spec/45_voice.md R429). -/
def execVNoteOff (amp : Word) (s : State) : Host.Outcome State Fault Refusal :=
  command (onVoice (noteOff (asF32 amp))) s

/-- `V.SETFREQ` (spec/45_voice.md R427). -/
def execVSetFreq (f : Word) (s : State) : Host.Outcome State Fault Refusal :=
  command (onVoice (setFreq (asF32 f))) s

/-- `V.TICK` (spec/45_voice.md R430). -/
def execVTick (s : State) : Host.Outcome State Fault Refusal := command (onVoice voiceTick) s

/-- `V.CC` (spec/45_voice.md R432). -/
def execVCc (num : Nat) (v : Word) (s : State) : Host.Outcome State Fault Refusal :=
  command (onVoice (controlChange num (asF32 v))) s

/-- `V.SETINSTR`: an id above 4 is refused; allowed without an instrument (spec/45_voice.md R423). -/
def execVSetInstr (id : Nat) (s : State) : Host.Outcome State Fault Refusal :=
  command (fun s => match instrOfId id with | some i => selectInstrument i s | none => refuse s) s

/-- `V.RESET` (spec/45_voice.md R434). -/
def execVReset (s : State) : Host.Outcome State Fault Refusal := command (onVoice voiceReset) s

/-- `V.LASTOUT` (spec/45_voice.md R435). -/
def execVLastOut (s : State) : Host.Outcome State Fault Refusal :=
  command (onVoice (fun s => answer s.voice.last s)) s

/-- `V.RDREG`: allowed without an instrument (spec/45_voice.md R436). -/
def execVRdReg (reg : Nat) (s : State) : Host.Outcome State Fault Refusal :=
  command (fun s => answerReg (voiceReg s.voice reg) s) s

/-- `V.WRREG`: only the register changes; allowed without an instrument (spec/45_voice.md R437). -/
def execVWrReg (reg : Nat) (v : Word) (s : State) : Host.Outcome State Fault Refusal :=
  command (fun s => match voiceSet s.voice reg (asF32 v) with | some w => s.setVoice w | none => refuse s) s

end Sys2Proof.Machine
end

