-- ==== Sys2Proof/Machine/Dispatch.lean ====
section
/-! DEFINITION. The dispatch of a command to its meaning: one arm per constructor of Instr, in the order of the opcode
map (spec/30_encoding.md R149). -/

namespace Sys2Proof.Machine

def exec (i : Instr) (s : State) : Host.Outcome State Fault Refusal :=
  match i with
  | .sysNop => Sys2Proof.Machine.execSysNop s
  | .sysReset => Sys2Proof.Machine.execSysReset s
  | .sysRdReg reg => Sys2Proof.Machine.execSysRdReg reg s
  | .sysWrReg reg v => Sys2Proof.Machine.execSysWrReg reg v s
  | .dlSetDelay unit lag => Sys2Proof.Machine.execDlSetDelay unit lag s
  | .dlTick unit x => Sys2Proof.Machine.execDlTick unit x s
  | .dlLastOut unit => Sys2Proof.Machine.execDlLastOut unit s
  | .dlClear unit => Sys2Proof.Machine.execDlClear unit s
  | .dlBufRd unit k => Sys2Proof.Machine.execDlBufRd unit k s
  | .dlRdReg unit reg => Sys2Proof.Machine.execDlRdReg unit reg s
  | .opSetPole unit p => Sys2Proof.Machine.execOpSetPole unit p s
  | .opSetGain unit g => Sys2Proof.Machine.execOpSetGain unit g s
  | .opTick unit x => Sys2Proof.Machine.execOpTick unit x s
  | .opClear unit => Sys2Proof.Machine.execOpClear unit s
  | .opLastOut unit => Sys2Proof.Machine.execOpLastOut unit s
  | .opRdReg unit reg => Sys2Proof.Machine.execOpRdReg unit reg s
  | .ozSetZero unit z => Sys2Proof.Machine.execOzSetZero unit z s
  | .ozSetGain unit g => Sys2Proof.Machine.execOzSetGain unit g s
  | .ozTick unit x => Sys2Proof.Machine.execOzTick unit x s
  | .ozClear unit => Sys2Proof.Machine.execOzClear unit s
  | .ozLastOut unit => Sys2Proof.Machine.execOzLastOut unit s
  | .ozRdReg unit reg => Sys2Proof.Machine.execOzRdReg unit reg s
  | .pzSetA1 unit a1 => Sys2Proof.Machine.execPzSetA1 unit a1 s
  | .pzSetB0 unit b0 => Sys2Proof.Machine.execPzSetB0 unit b0 s
  | .pzSetB1 unit b1 => Sys2Proof.Machine.execPzSetB1 unit b1 s
  | .pzSetBlockZero unit p => Sys2Proof.Machine.execPzSetBlockZero unit p s
  | .pzTick unit x => Sys2Proof.Machine.execPzTick unit x s
  | .pzClear unit => Sys2Proof.Machine.execPzClear unit s
  | .pzLastOut unit => Sys2Proof.Machine.execPzLastOut unit s
  | .pzRdReg unit reg => Sys2Proof.Machine.execPzRdReg unit reg s
  | .bqSetFreqReson unit freq reson => Sys2Proof.Machine.execBqSetFreqReson unit freq reson s
  | .bqSetEqualGainZeroes unit => Sys2Proof.Machine.execBqSetEqualGainZeroes unit s
  | .bqTick unit x => Sys2Proof.Machine.execBqTick unit x s
  | .bqClear unit => Sys2Proof.Machine.execBqClear unit s
  | .bqLastOut unit => Sys2Proof.Machine.execBqLastOut unit s
  | .bqSetCoef unit coef v => Sys2Proof.Machine.execBqSetCoef unit coef v s
  | .bqRdReg unit reg => Sys2Proof.Machine.execBqRdReg unit reg s
  | .bowSetOffset unit offset => Sys2Proof.Machine.execBowSetOffset unit offset s
  | .bowSetSlope unit slope => Sys2Proof.Machine.execBowSetSlope unit slope s
  | .bowTick unit dv => Sys2Proof.Machine.execBowTick unit dv s
  | .bowRdReg unit reg => Sys2Proof.Machine.execBowRdReg unit reg s
  | .reedSetOffset unit offset => Sys2Proof.Machine.execReedSetOffset unit offset s
  | .reedSetSlope unit slope => Sys2Proof.Machine.execReedSetSlope unit slope s
  | .reedTick unit dp => Sys2Proof.Machine.execReedTick unit dp s
  | .reedRdReg unit reg => Sys2Proof.Machine.execReedRdReg unit reg s
  | .jetTick unit x => Sys2Proof.Machine.execJetTick unit x s
  | .jetRdReg unit reg => Sys2Proof.Machine.execJetRdReg unit reg s
  | .lipSetFreqReson unit freq reson => Sys2Proof.Machine.execLipSetFreqReson unit freq reson s
  | .lipSetEqualGainZeroes unit => Sys2Proof.Machine.execLipSetEqualGainZeroes unit s
  | .lipTick unit mouthP boreP => Sys2Proof.Machine.execLipTick unit mouthP boreP s
  | .lipClear unit => Sys2Proof.Machine.execLipClear unit s
  | .lipLastOut unit => Sys2Proof.Machine.execLipLastOut unit s
  | .lipSetCoef unit coef v => Sys2Proof.Machine.execLipSetCoef unit coef v s
  | .lipRdReg unit reg => Sys2Proof.Machine.execLipRdReg unit reg s
  | .envSetRate unit rate => Sys2Proof.Machine.execEnvSetRate unit rate s
  | .envSetTarget unit target => Sys2Proof.Machine.execEnvSetTarget unit target s
  | .envSetValue unit v => Sys2Proof.Machine.execEnvSetValue unit v s
  | .envKeyOn unit => Sys2Proof.Machine.execEnvKeyOn unit s
  | .envKeyOff unit => Sys2Proof.Machine.execEnvKeyOff unit s
  | .envTick unit => Sys2Proof.Machine.execEnvTick unit s
  | .envRdReg unit reg => Sys2Proof.Machine.execEnvRdReg unit reg s
  | .adsrSetAttack unit rate => Sys2Proof.Machine.execAdsrSetAttack unit rate s
  | .adsrSetDecay unit rate => Sys2Proof.Machine.execAdsrSetDecay unit rate s
  | .adsrSetSustain unit level => Sys2Proof.Machine.execAdsrSetSustain unit level s
  | .adsrSetRelease unit rate => Sys2Proof.Machine.execAdsrSetRelease unit rate s
  | .adsrKeyOn unit => Sys2Proof.Machine.execAdsrKeyOn unit s
  | .adsrKeyOff unit => Sys2Proof.Machine.execAdsrKeyOff unit s
  | .adsrTick unit => Sys2Proof.Machine.execAdsrTick unit s
  | .adsrRdReg unit reg => Sys2Proof.Machine.execAdsrRdReg unit reg s
  | .nsSeed unit seed => Sys2Proof.Machine.execNsSeed unit seed s
  | .nsTick unit => Sys2Proof.Machine.execNsTick unit s
  | .nsRdReg unit reg => Sys2Proof.Machine.execNsRdReg unit reg s
  | .oscSetFreq unit f => Sys2Proof.Machine.execOscSetFreq unit f s
  | .oscReset unit => Sys2Proof.Machine.execOscReset unit s
  | .oscTick unit => Sys2Proof.Machine.execOscTick unit s
  | .oscTblWr unit idx v => Sys2Proof.Machine.execOscTblWr unit idx v s
  | .oscTblRd unit idx => Sys2Proof.Machine.execOscTblRd unit idx s
  | .oscRdReg unit reg => Sys2Proof.Machine.execOscRdReg unit reg s
  | .vNoteOn f amp => Sys2Proof.Machine.execVNoteOn f amp s
  | .vNoteOff amp => Sys2Proof.Machine.execVNoteOff amp s
  | .vSetFreq f => Sys2Proof.Machine.execVSetFreq f s
  | .vTick => Sys2Proof.Machine.execVTick s
  | .vCc num v => Sys2Proof.Machine.execVCc num v s
  | .vSetInstr id => Sys2Proof.Machine.execVSetInstr id s
  | .vReset => Sys2Proof.Machine.execVReset s
  | .vLastOut => Sys2Proof.Machine.execVLastOut s
  | .vRdReg reg => Sys2Proof.Machine.execVRdReg reg s
  | .vWrReg reg v => Sys2Proof.Machine.execVWrReg reg v s

end Sys2Proof.Machine
end

