-- ==== Sys2Proof/Machine/Fetch.lean ====
section
/-! DEFINITION. How the next command reaches the executor: one event of the host per step (spec/30_encoding.md R145 to
R148, spec/70_reset_and_hazards.md R570; log 7, log 8, log 10). -/

namespace Sys2Proof.Machine

/-- A cycle in which no packet is offered: cmd_ready is 1 and rsp_valid is 0, everything else holds
(spec/30_encoding.md R145, spec/60_exceptions.md R546). -/
def idleCycle (s : State) : State := { s with cmdReady := true, rspValid := false }

/-- An accepted packet: decoded and executed, or refused where it is no command (spec/30_encoding.md R148, R150). -/
def runPacket (p : Packet) (s : State) : Host.Outcome State Fault Refusal :=
  match decode p with
  | .ok i => exec i s
  | .error _ => command refuse s

/-- One event of the host. With no event left the port stays idle. -/
def serve (s : State) : Host.Outcome State Fault Refusal :=
  match s.inbox with
  | [] => .next (idleCycle s)
  | .idle :: rest => .next (idleCycle { s with inbox := rest })
  | .command p :: rest => runPacket p { s with inbox := rest }
  | .rst :: rest => .next (restart { s with inbox := rest })
  | .abandoned _ :: rest => .next (restart { s with inbox := rest })

/-- The packet placed as the next event of the host, before all others. -/
def offer (p : Packet) (s : State) : State := { s with inbox := .command p :: s.inbox }

end Sys2Proof.Machine
end

