-- ==== Sys2Proof/Machine/Step.lean ====
section
/-! DEFINITION. The step of the machine: one event of the host, which for a packet is one whole command
(spec/20_memory.md R106, R109). -/

namespace Sys2Proof.Machine

/-- One step (log 7). -/
def step (s : State) : Host.Outcome State Fault Refusal := serve s

/-- `s` with the command of the low `nbits` bits of `w`, its operand words as those bits give them and zero above, offered
at the port next (log 7, log 11). -/
def State.withFetchWord (s : State) (nbits w : Nat) : State := offer (packetOfTableWord nbits w) s

end Sys2Proof.Machine
end

