-- ==== Sys2Proof/Machine/Port.lean ====
section
/-! DEFINITION. The command port clock edge by clock edge (spec/30_encoding.md R144 to R147, spec/00_scope.md R16,
spec/70_reset_and_hazards.md R570): the layer below one step, in which a command takes LAT cycles and `rst` may come at
any edge. One accepted packet here is one step of the machine there (log 5, log 8). -/

namespace Sys2Proof.Machine

/-- The inputs the block samples at a rising edge (spec/30_encoding.md R144). -/
structure PortIn where
  rst : Bool
  cmdValid : Bool
  packet : Packet
deriving DecidableEq, Repr

/-- The outputs of the block during a cycle (spec/30_encoding.md R144). -/
structure PortOut where
  cmdReady : Bool
  rspValid : Bool
  rspR : Word
  rspWarn : BitVec 8
  irq : Bool
deriving DecidableEq, Repr

/-- Where the port stands in a cycle (spec/30_encoding.md R145). -/
inductive PortPhase where
  /-- `cmd_ready = 1`. -/
  | ready
  /-- The packet is in execution; `left` more cycles pass before the cycle of its response. -/
  | busy (p : Packet) (left : Nat)
  /-- The cycle in which `rsp_valid = 1`. -/
  | responding
deriving DecidableEq, Repr

/-- A block at its clocked port: its state at command boundaries, the phase of the port, and how many packets were
accepted, which the free latency is a function of (spec/00_scope.md R16; log 5). -/
structure Clocked where
  block : State
  phase : PortPhase
  served : Nat
deriving DecidableEq, Repr

/-- The block after a packet. A packet always completes (spec/60_exceptions.md R538). -/
def served (p : Packet) (s : State) : State :=
  match runPacket p s with
  | .next t => t
  | .fault _ => s
  | .refused _ => s

/-- A command in execution with `left` cycles to go before its response: with none left it responds, all its state
changes made (spec/30_encoding.md R145, spec/20_memory.md R109). -/
def advance (c : Clocked) (p : Packet) (left : Nat) : Clocked :=
  match left with
  | 0 => { c with block := served p c.block, phase := .responding }
  | n + 1 => { c with phase := .busy p n }

/-- A packet offered while the port is ready is accepted at the edge; LAT is one more than the free value
(spec/30_encoding.md R145, spec/00_scope.md R16). -/
def accept (c : Clocked) (p : Packet) : Clocked :=
  advance { c with served := c.served + 1 } p (Config.latencyLessOne c.served)

/-- One rising edge of `clk`. With `rst = 1` every piece of state takes its reset value and a command in execution is
abandoned (spec/70_reset_and_hazards.md R570); a packet offered while the port is not ready is not accepted
(spec/30_encoding.md R146). -/
def clockEdge (i : PortIn) (c : Clocked) : Clocked :=
  if i.rst then { c with block := restart c.block, phase := .ready }
  else match c.phase with
    | .ready => if i.cmdValid then accept c i.packet else { c with block := idleCycle c.block }
    | .busy p left => advance c p left
    | .responding => { c with block := idleCycle c.block, phase := .ready }

/-- A run of rising edges, the first input first. -/
def clockEdges : List PortIn → Clocked → Clocked
  | [], c => c
  | i :: is, c => clockEdges is (clockEdge i c)

/-- The outputs of a cycle. While `rst = 1`, cmd_ready, rsp_valid and irq are 0 (spec/30_encoding.md R145,
spec/70_reset_and_hazards.md R570); rsp_r and rsp_warn keep the last response (R145). -/
def portOut (rst : Bool) (c : Clocked) : PortOut :=
  { cmdReady := !rst && c.phase == .ready,
    rspValid := !rst && c.phase == .responding,
    rspR := c.block.rspR,
    rspWarn := c.block.rspWarn,
    irq := !rst && c.block.irq }

end Sys2Proof.Machine
end

