-- ==== Sys2Proof/Machine/Response.lean ====
section
/-! DEFINITION. The response of a command as one operation on the state that the command's rule leaves
(spec/30_encoding.md R145, R148; spec/60_exceptions.md R532, R535), and the frequency contract in closed form
(spec/45_voice.md R425, R426): what statements about results are written with. -/

namespace Sys2Proof.Machine

/-- The WARN mask of the warnings raised, in the order raised (spec/60_exceptions.md R532). -/
def warnMask : List Warning → BitVec 8
  | [] => 0#8
  | w :: ws => warnBit w ||| warnMask ws

/-- LAST_WARN after the warnings raised: the code of the last one (spec/60_exceptions.md R532). -/
def lastCode (old : BitVec 4) : List Warning → BitVec 4
  | [] => old
  | w :: ws => lastCode (BitVec.ofNat 4 (warnCode w)) ws

/-- The state in the response cycle of a command that answers `r`, raised the warnings `ws` in this order, and left all
other state as in `s`: R and WARN are answered, STATUS gains WARN, LAST_WARN the last code, and irq follows STATUS and
IRQ_EN (spec/30_encoding.md R145, R148; spec/60_exceptions.md R532, R535). -/
def respond (r : Word) (ws : List Warning) (s : State) : State :=
  { s with rspR := r, rspWarn := warnMask ws,
           status := s.status ||| warnMask ws, lastWarn := lastCode s.lastWarn ws,
           cmdReady := false, rspValid := true, irq := irqLine (s.status ||| warnMask ws) s.irqEn }

/-- A warning that is raised where a condition holds, as a list. -/
def warnIf (c : Bool) (w : Warning) : List Warning := if c then [w] else []

/-! ## The frequency contract in closed form (spec/45_voice.md R425, R426) -/

/-- The frequency in effect: DEFAULT_FREQ unless the request is above 0.0. -/
def tunedFreq (s : State) (f : F32) : F32 := if flt fZero f then f else s.voice.defaultFreq

/-- `D` before the clamps. -/
def requestedDelay (s : State) (f : F32) : F32 := fsub (fdiv s.fs (tunedFreq s f)) s.voice.comp

/-- `Dmax`, `f32(L_0 - 1)`. -/
def largestDelay (s : State) : F32 := fOfNat ((s.dlAt 0).len - 1)

/-- BASE_DELAY: `D` clamped to [MIN_DELAY, `Dmax`]. -/
def tunedDelay (s : State) (f : F32) : F32 :=
  if isNaN (requestedDelay s f) || flt (requestedDelay s f) s.voice.minDelay then s.voice.minDelay
  else if flt (largestDelay s) (requestedDelay s f) then largestDelay s
  else requestedDelay s f

/-- `D` needed a clamp. -/
def delayClamped (s : State) (f : F32) : Bool :=
  isNaN (requestedDelay s f) || flt (requestedDelay s f) s.voice.minDelay || flt (largestDelay s) (requestedDelay s f)

/-- Bowed and Flute divide the delay over DL0 and DL1. -/
def twoLines (i : Instrument) : Bool := i == .bowed || i == .flute

/-- The share of a loop delay `d` that DL0 is asked for. -/
def shareOfLine0 (s : State) (d : F32) : F32 :=
  if twoLines s.voice.instr then fmul d (fsub fOne s.voice.ratio) else fmul d s.voice.ratio

/-- The lines after `Distribute(d)`. -/
def distributedLines (s : State) (d : F32) : List DelayLine :=
  if twoLines s.voice.instr then
    (s.dl.set 0 (dlSetDelay (s.dlAt 0) (shareOfLine0 s d))).set 1 (dlSetDelay (s.dlAt 1) (fmul d s.voice.ratio))
  else s.dl.set 0 (dlSetDelay (s.dlAt 0) (shareOfLine0 s d))

/-- The warnings of `Distribute(d)`. -/
def distributeWarnings (s : State) (d : F32) : List Warning :=
  warnIf (dlLagOut (s.dlAt 0).len (shareOfLine0 s d)) .delayRange ++
    warnIf (twoLines s.voice.instr && dlLagOut (s.dlAt 1).len (fmul d s.voice.ratio)) .delayRange

/-- The lip units after `SetFreq(f)`: Brass places the resonance at the frequency in effect. -/
def tunedLips (s : State) (f : F32) : List Lip :=
  if s.voice.instr = .brass then
    s.lip.set 0
      { s.lipAt 0 with
        filter := bqSetFreqReson s.cosine s.fs (s.lipAt 0).filter (tunedFreq s f) s.voice.lipReson }
  else s.lip

/-- `SetFreq(f)`: FREQ, BASE_DELAY, the lines and the Brass lip, and nothing else. -/
def tuned (s : State) (f : F32) : State :=
  { s with voice := { s.voice with freq := tunedFreq s f, baseDelay := tunedDelay s f },
           dl := distributedLines s (tunedDelay s f), lip := tunedLips s f }

/-- The warnings of `SetFreq(f)`, in order. -/
def tuneWarnings (s : State) (f : F32) : List Warning :=
  warnIf (!flt fZero f) .freqRange ++ warnIf (delayClamped s f) .delayRange ++ distributeWarnings s (tunedDelay s f)

/-! ## The voice reset and one excitation in closed form (spec/45_voice.md R434, R431, R439) -/

/-- `VoiceReset()`: the memories of the bound units, ENV0's value, OSC0's phase, VSTATE, AMP, LAST and the Plucked
LOOP_GAIN, and nothing else. -/
def quieted (s : State) : State :=
  { s with
    dl := (s.dl.set 0 { s.dlAt 0 with buf := [], last := 0#32 }).set 1 { s.dlAt 1 with buf := [], last := 0#32 },
    op := (s.op.set 0 { s.opAt 0 with last := 0#32 }).set 1 { s.opAt 1 with last := 0#32 },
    oz := s.oz.set 0 { s.ozAt 0 with x1 := 0#32, last := 0#32 },
    pz := s.pz.set 0 { s.pzAt 0 with x1 := 0#32, last := 0#32 },
    bq := s.bq.set 0 { s.bqAt 0 with w1 := 0#32, w2 := 0#32, last := 0#32 },
    lip := s.lip.set 0
      { filter := { (s.lipAt 0).filter with w1 := 0#32, w2 := 0#32, last := 0#32 }, last := 0#32 },
    env := s.env.set 0 { s.envAt 0 with value := 0#32, target := 0#32, state := .done },
    osc := s.osc.set 0 { s.oscAt 0 with phase := 0#32, last := 0#32 },
    voice := { s.voice with vstate := .idle, amp := 0#32, last := 0#32,
                            loopGain := if s.voice.instr = .plucked then s.voice.loopGainOn else s.voice.loopGain } }

/-- A noise source after a tick, under either NOISE_MODEL (spec/44_sources.md R381). -/
def noiseAfter (s : State) (q : Noise) : Noise :=
  match s.noise with
  | .xorshift32 => nsTickXorshift q
  | .draw => { q with last := drawSample s.drawCount }

/-- The draw counter after a noise tick (log 4). -/
def drawsAfter (s : State) : Nat :=
  match s.noise with
  | .xorshift32 => s.drawCount
  | .draw => s.drawCount + 1

/-- VSTATE after a V.TICK that leaves ENV0 as `e`, for an instrument other than Plucked (spec/45_voice.md R439). -/
def vstateAfter (s : State) (e : Env) : VoiceState :=
  if s.voice.vstate = .releasing ∧ e.state = .done ∧ feq e.value fZero = true then .idle else s.voice.vstate

end Sys2Proof.Machine
end

