-- ==== Sys2Proof/Safety.lean ====
section
/-! DEFINITION. The terms claims use: which unit a command addresses, the invariants every step keeps, and what a
correctly rounded result is. -/

namespace Sys2Proof.Machine

/-! ## What a command addresses -/

/-- The classes with unit instances (spec/30_encoding.md R143). -/
inductive UnitClass where
  | dl
  | op
  | oz
  | pz
  | bq
  | bow
  | reed
  | jet
  | lip
  | env
  | adsr
  | ns
  | osc
deriving DecidableEq, Repr

/-- The unit a command addresses; none for SYS and VOICE (spec/30_encoding.md R143, R149). -/
def target : Instr → Option (UnitClass × Nat)
  | .sysNop => none
  | .sysReset => none
  | .sysRdReg _ => none
  | .sysWrReg _ _ => none
  | .dlSetDelay unit _ => some (.dl, unit)
  | .dlTick unit _ => some (.dl, unit)
  | .dlLastOut unit => some (.dl, unit)
  | .dlClear unit => some (.dl, unit)
  | .dlBufRd unit _ => some (.dl, unit)
  | .dlRdReg unit _ => some (.dl, unit)
  | .opSetPole unit _ => some (.op, unit)
  | .opSetGain unit _ => some (.op, unit)
  | .opTick unit _ => some (.op, unit)
  | .opClear unit => some (.op, unit)
  | .opLastOut unit => some (.op, unit)
  | .opRdReg unit _ => some (.op, unit)
  | .ozSetZero unit _ => some (.oz, unit)
  | .ozSetGain unit _ => some (.oz, unit)
  | .ozTick unit _ => some (.oz, unit)
  | .ozClear unit => some (.oz, unit)
  | .ozLastOut unit => some (.oz, unit)
  | .ozRdReg unit _ => some (.oz, unit)
  | .pzSetA1 unit _ => some (.pz, unit)
  | .pzSetB0 unit _ => some (.pz, unit)
  | .pzSetB1 unit _ => some (.pz, unit)
  | .pzSetBlockZero unit _ => some (.pz, unit)
  | .pzTick unit _ => some (.pz, unit)
  | .pzClear unit => some (.pz, unit)
  | .pzLastOut unit => some (.pz, unit)
  | .pzRdReg unit _ => some (.pz, unit)
  | .bqSetFreqReson unit _ _ => some (.bq, unit)
  | .bqSetEqualGainZeroes unit => some (.bq, unit)
  | .bqTick unit _ => some (.bq, unit)
  | .bqClear unit => some (.bq, unit)
  | .bqLastOut unit => some (.bq, unit)
  | .bqSetCoef unit _ _ => some (.bq, unit)
  | .bqRdReg unit _ => some (.bq, unit)
  | .bowSetOffset unit _ => some (.bow, unit)
  | .bowSetSlope unit _ => some (.bow, unit)
  | .bowTick unit _ => some (.bow, unit)
  | .bowRdReg unit _ => some (.bow, unit)
  | .reedSetOffset unit _ => some (.reed, unit)
  | .reedSetSlope unit _ => some (.reed, unit)
  | .reedTick unit _ => some (.reed, unit)
  | .reedRdReg unit _ => some (.reed, unit)
  | .jetTick unit _ => some (.jet, unit)
  | .jetRdReg unit _ => some (.jet, unit)
  | .lipSetFreqReson unit _ _ => some (.lip, unit)
  | .lipSetEqualGainZeroes unit => some (.lip, unit)
  | .lipTick unit _ _ => some (.lip, unit)
  | .lipClear unit => some (.lip, unit)
  | .lipLastOut unit => some (.lip, unit)
  | .lipSetCoef unit _ _ => some (.lip, unit)
  | .lipRdReg unit _ => some (.lip, unit)
  | .envSetRate unit _ => some (.env, unit)
  | .envSetTarget unit _ => some (.env, unit)
  | .envSetValue unit _ => some (.env, unit)
  | .envKeyOn unit => some (.env, unit)
  | .envKeyOff unit => some (.env, unit)
  | .envTick unit => some (.env, unit)
  | .envRdReg unit _ => some (.env, unit)
  | .adsrSetAttack unit _ => some (.adsr, unit)
  | .adsrSetDecay unit _ => some (.adsr, unit)
  | .adsrSetSustain unit _ => some (.adsr, unit)
  | .adsrSetRelease unit _ => some (.adsr, unit)
  | .adsrKeyOn unit => some (.adsr, unit)
  | .adsrKeyOff unit => some (.adsr, unit)
  | .adsrTick unit => some (.adsr, unit)
  | .adsrRdReg unit _ => some (.adsr, unit)
  | .nsSeed unit _ => some (.ns, unit)
  | .nsTick unit => some (.ns, unit)
  | .nsRdReg unit _ => some (.ns, unit)
  | .oscSetFreq unit _ => some (.osc, unit)
  | .oscReset unit => some (.osc, unit)
  | .oscTick unit => some (.osc, unit)
  | .oscTblWr unit _ _ => some (.osc, unit)
  | .oscTblRd unit _ => some (.osc, unit)
  | .oscRdReg unit _ => some (.osc, unit)
  | .vNoteOn _ _ => none
  | .vNoteOff _ => none
  | .vSetFreq _ => none
  | .vTick => none
  | .vCc _ _ => none
  | .vSetInstr _ => none
  | .vReset => none
  | .vLastOut => none
  | .vRdReg _ => none
  | .vWrReg _ _ => none

/-- The VOICE commands (spec/30_encoding.md R149). -/
def isVoice : Instr → Bool
  | .sysNop => false
  | .sysReset => false
  | .sysRdReg _ => false
  | .sysWrReg _ _ => false
  | .dlSetDelay _ _ => false
  | .dlTick _ _ => false
  | .dlLastOut _ => false
  | .dlClear _ => false
  | .dlBufRd _ _ => false
  | .dlRdReg _ _ => false
  | .opSetPole _ _ => false
  | .opSetGain _ _ => false
  | .opTick _ _ => false
  | .opClear _ => false
  | .opLastOut _ => false
  | .opRdReg _ _ => false
  | .ozSetZero _ _ => false
  | .ozSetGain _ _ => false
  | .ozTick _ _ => false
  | .ozClear _ => false
  | .ozLastOut _ => false
  | .ozRdReg _ _ => false
  | .pzSetA1 _ _ => false
  | .pzSetB0 _ _ => false
  | .pzSetB1 _ _ => false
  | .pzSetBlockZero _ _ => false
  | .pzTick _ _ => false
  | .pzClear _ => false
  | .pzLastOut _ => false
  | .pzRdReg _ _ => false
  | .bqSetFreqReson _ _ _ => false
  | .bqSetEqualGainZeroes _ => false
  | .bqTick _ _ => false
  | .bqClear _ => false
  | .bqLastOut _ => false
  | .bqSetCoef _ _ _ => false
  | .bqRdReg _ _ => false
  | .bowSetOffset _ _ => false
  | .bowSetSlope _ _ => false
  | .bowTick _ _ => false
  | .bowRdReg _ _ => false
  | .reedSetOffset _ _ => false
  | .reedSetSlope _ _ => false
  | .reedTick _ _ => false
  | .reedRdReg _ _ => false
  | .jetTick _ _ => false
  | .jetRdReg _ _ => false
  | .lipSetFreqReson _ _ _ => false
  | .lipSetEqualGainZeroes _ => false
  | .lipTick _ _ _ => false
  | .lipClear _ => false
  | .lipLastOut _ => false
  | .lipSetCoef _ _ _ => false
  | .lipRdReg _ _ => false
  | .envSetRate _ _ => false
  | .envSetTarget _ _ => false
  | .envSetValue _ _ => false
  | .envKeyOn _ => false
  | .envKeyOff _ => false
  | .envTick _ => false
  | .envRdReg _ _ => false
  | .adsrSetAttack _ _ => false
  | .adsrSetDecay _ _ => false
  | .adsrSetSustain _ _ => false
  | .adsrSetRelease _ _ => false
  | .adsrKeyOn _ => false
  | .adsrKeyOff _ => false
  | .adsrTick _ => false
  | .adsrRdReg _ _ => false
  | .nsSeed _ _ => false
  | .nsTick _ => false
  | .nsRdReg _ _ => false
  | .oscSetFreq _ _ => false
  | .oscReset _ => false
  | .oscTick _ => false
  | .oscTblWr _ _ _ => false
  | .oscTblRd _ _ => false
  | .oscRdReg _ _ => false
  | .vNoteOn _ _ => true
  | .vNoteOff _ => true
  | .vSetFreq _ => true
  | .vTick => true
  | .vCc _ _ => true
  | .vSetInstr _ => true
  | .vReset => true
  | .vLastOut => true
  | .vRdReg _ => true
  | .vWrReg _ _ => true

/-- `N_cls`, the unit count of a class (spec/00_scope.md R11). -/
def unitCount (s : State) : UnitClass → Nat
  | .dl => s.dl.length
  | .op => s.op.length
  | .oz => s.oz.length
  | .pz => s.pz.length
  | .bq => s.bq.length
  | .bow => s.bow.length
  | .reed => s.reed.length
  | .jet => s.jet.length
  | .lip => s.lip.length
  | .env => s.env.length
  | .adsr => s.adsr.length
  | .ns => s.ns.length
  | .osc => s.osc.length

/-- Every unit of `s` but the named one is in `t` as it is in `s`; with none named, every unit. -/
def otherUnitsKept (but : Option (UnitClass × Nat)) (s t : State) : Prop :=
  (∀ u, but ≠ some (.dl, u) → t.dl[u]? = s.dl[u]?) ∧
  (∀ u, but ≠ some (.op, u) → t.op[u]? = s.op[u]?) ∧
  (∀ u, but ≠ some (.oz, u) → t.oz[u]? = s.oz[u]?) ∧
  (∀ u, but ≠ some (.pz, u) → t.pz[u]? = s.pz[u]?) ∧
  (∀ u, but ≠ some (.bq, u) → t.bq[u]? = s.bq[u]?) ∧
  (∀ u, but ≠ some (.bow, u) → t.bow[u]? = s.bow[u]?) ∧
  (∀ u, but ≠ some (.reed, u) → t.reed[u]? = s.reed[u]?) ∧
  (∀ u, but ≠ some (.jet, u) → t.jet[u]? = s.jet[u]?) ∧
  (∀ u, but ≠ some (.lip, u) → t.lip[u]? = s.lip[u]?) ∧
  (∀ u, but ≠ some (.env, u) → t.env[u]? = s.env[u]?) ∧
  (∀ u, but ≠ some (.adsr, u) → t.adsr[u]? = s.adsr[u]?) ∧
  (∀ u, but ≠ some (.ns, u) → t.ns[u]? = s.ns[u]?) ∧
  (∀ u, but ≠ some (.osc, u) → t.osc[u]? = s.osc[u]?)

/-- What a build fixes is in `t` as it is in `s`: FS, NOISE_MODEL, COS32, the unit counts, the line and table lengths
(spec/00_scope.md R10 to R15). -/
def buildKept (s t : State) : Prop :=
  t.fs = s.fs ∧ t.noise = s.noise ∧ t.cosine = s.cosine ∧
  t.dl.map (·.len) = s.dl.map (·.len) ∧ t.osc.map (·.len) = s.osc.map (·.len) ∧
  (∀ c, unitCount t c = unitCount s c)

/-! ## Invariants -/

/-- A delay line is sound: a legal length, both pointers inside the buffer, and the buffer in canonical form with every
cell inside it (spec/00_scope.md R12, spec/10_state.md R33, R34, spec/20_memory.md R100, R101). -/
abbrev lineSound (d : DelayLine) : Prop :=
  (1 ≤ d.len ∧ d.len ≤ 16777216) ∧ d.wptr < d.len ∧ d.rptr < d.len ∧ Memory.wf d.buf ∧ ∀ c ∈ d.buf, c.1 < d.len

/-- An oscillator is sound: a legal table length, and the table in canonical form with every cell inside it
(spec/00_scope.md R13, spec/10_state.md R46, R47). -/
abbrev tableSound (o : Osc) : Prop :=
  (1 ≤ o.len ∧ o.len ≤ 65536) ∧ Memory.wf o.tbl ∧ ∀ c ∈ o.tbl, c.1 < o.len

/-- The unit counts are legal (spec/00_scope.md R11). -/
abbrev countsLegal (s : State) : Prop :=
  (2 ≤ s.dl.length ∧ s.dl.length ≤ 255) ∧ (2 ≤ s.op.length ∧ s.op.length ≤ 255) ∧
  Config.countLegal s.oz.length ∧ Config.countLegal s.pz.length ∧ Config.countLegal s.bq.length ∧
  Config.countLegal s.bow.length ∧ Config.countLegal s.reed.length ∧ Config.countLegal s.jet.length ∧
  Config.countLegal s.lip.length ∧ Config.countLegal s.env.length ∧ Config.countLegal s.adsr.length ∧
  Config.countLegal s.ns.length ∧ Config.countLegal s.osc.length

/-- The block is sound: legal counts, sound lines and oscillators, no noise source in the zero state
(spec/44_sources.md R381), a LAST_WARN code that exists (spec/60_exceptions.md R531), and irq as STATUS and IRQ_EN drive
it (R535). -/
abbrev State.Sound (s : State) : Prop :=
  countsLegal s ∧ (∀ d ∈ s.dl, lineSound d) ∧ (∀ o ∈ s.osc, tableSound o) ∧ (∀ n ∈ s.ns, n.state ≠ 0#32) ∧
  s.lastWarn.toNat ≤ 8 ∧ s.irq = irqLine s.status s.irqEn

/-- `(DL.WPTR − DL.RPTR) mod L` (spec/40_delay_line.md R206). -/
def pointerGap (d : DelayLine) : Nat := (d.wptr + d.len - d.rptr) % d.len

/-- The pointer invariant of a delay line (spec/40_delay_line.md R206): the gap is `floor(LAG)` or `floor(LAG) + 1`, and
the gap less ALPHA is LAG up to the rounding of `fl(1.0 - f)`, which errs by at most half a unit in the 24th place. LAG
is a delay the line can hold. -/
def lineTrails (d : DelayLine) : Prop :=
  fMag d.lag < infMag ∧ 0 ≤ fVal d.lag ∧ fVal d.lag ≤ (d.len : ℚ) - 1 ∧ fMag d.alpha < infMag ∧
  pointerGap d = (if feq d.alpha fZero then ffloor d.lag else ffloor d.lag + 1) ∧
  |(pointerGap d : ℚ) - fVal d.alpha - fVal d.lag| ≤ 1 / 2 ^ 25

/-- The binary32 registers and words of each unit. -/
def DelayLine.floats (d : DelayLine) : List F32 := [d.lag, d.alpha, d.omalpha, d.last] ++ d.buf.map (·.2)
def OnePole.floats (q : OnePole) : List F32 := [q.pole, q.gain, q.sgain, q.last]
def OneZero.floats (q : OneZero) : List F32 := [q.zero, q.gain, q.b0, q.b1, q.x1, q.last]
def PoleZero.floats (q : PoleZero) : List F32 := [q.a1, q.b0, q.b1, q.x1, q.last]
def Biquad.floats (q : Biquad) : List F32 := [q.b0, q.b1, q.b2, q.a1, q.a2, q.w1, q.w2, q.last]
def Bow.floats (q : Bow) : List F32 := [q.offset, q.slope, q.last]
def Reed.floats (q : Reed) : List F32 := [q.offset, q.slope, q.last]
def Jet.floats (q : Jet) : List F32 := [q.last]
def Lip.floats (q : Lip) : List F32 := q.filter.floats ++ [q.last]
def Env.floats (q : Env) : List F32 := [q.value, q.target, q.rate]
def Adsr.floats (q : Adsr) : List F32 := [q.value, q.target, q.attack, q.decay, q.sustain, q.release]
def Noise.floats (q : Noise) : List F32 := [q.last]
def Osc.floats (q : Osc) : List F32 := [q.freq, q.rate, q.phase, q.last] ++ q.tbl.map (·.2)
def Voice.floats (v : Voice) : List F32 :=
  [v.freq, v.amp, v.baseDelay, v.last, v.comp, v.ratio, v.minDelay, v.defaultFreq, v.outGain, v.excOffset, v.excScale,
   v.attackRate, v.releaseScale, v.noiseGain, v.vibGain, v.reflA, v.reflB, v.loopGain, v.loopGainOn, v.lipReson]

/-- Every binary32 register, buffer word and table word of the block (spec/10_state.md R33 to R49). -/
def State.floats (s : State) : List F32 :=
  s.dl.flatMap DelayLine.floats ++ s.op.flatMap OnePole.floats ++ s.oz.flatMap OneZero.floats ++
  s.pz.flatMap PoleZero.floats ++ s.bq.flatMap Biquad.floats ++ s.bow.flatMap Bow.floats ++
  s.reed.flatMap Reed.floats ++ s.jet.flatMap Jet.floats ++ s.lip.flatMap Lip.floats ++ s.env.flatMap Env.floats ++
  s.adsr.flatMap Adsr.floats ++ s.ns.flatMap Noise.floats ++ s.osc.flatMap Osc.floats ++ s.voice.floats

/-- A word that, if it is a NaN, is the canonical one (spec/00_scope.md R19). -/
def canonical (x : F32) : Prop := isNaN x = true → x = fNaN

/-- No register or word holds a NaN other than the canonical one (spec/00_scope.md R19). -/
def State.Canonical (s : State) : Prop := ∀ x ∈ s.floats, canonical x

/-- A value in [0.0, 1.0]. -/
def inUnit (x : F32) : Bool := fle fZero x && fle x fOne

/-- A rate as `SanRate` leaves it: not NaN and not negative (spec/43_envelopes.md R340). -/
def rateLegal (x : F32) : Bool := fle fZero x

/-- The TARGET of an ADSR unit by its STATE: 1.0, SUSTAIN or 0.0 (spec/10_state.md R44), as the keys, SETSUSTAIN and the
ticks leave it (spec/43_envelopes.md R350, R352 to R354). -/
def adsrGoal (q : Adsr) : F32 :=
  match q.state with
  | .attack => fOne
  | .decay | .sustain => q.sustain
  | .release | .idle => fZero

/-- The legal values of an ADSR unit's registers (spec/10_state.md R44, spec/43_envelopes.md R340, R354). -/
abbrev adsrLegal (q : Adsr) : Prop :=
  inUnit q.value ∧ q.target = adsrGoal q ∧ inUnit q.sustain ∧ rateLegal q.attack ∧ rateLegal q.decay ∧
  rateLegal q.release

/-- A frequency in [-FS/2, FS/2] (spec/10_state.md R46, spec/44_sources.md R383). -/
def freqLegal (fs f : F32) : Bool := fle (fneg (nyquist fs)) f && fle f (nyquist fs)

/-- A sample rate as every build has it: above 0.0 and finite (spec/00_scope.md R10). -/
abbrev rateOfBuild (fs : F32) : Prop := 0 < fs.toNat ∧ fs.toNat < infMag

/-- The legal values of spec/10_state.md that hold at every command end: LAST of BOW, REED, JET and NS (R39 to R41, R45),
TARGET and RATE of ENV (R43), every register of ADSR (R44), FREQ of OSC (R46) for a legal FS, and AMP (R48). The legal
values of ENV.VALUE and OSC.PHASE can fail (log 17); NS.STATE stands in `State.Sound`. -/
abbrev State.InRange (s : State) : Prop :=
  rateOfBuild s.fs ∧
  (∀ q ∈ s.bow, isNaN q.last ∨ inUnit q.last) ∧
  (∀ q ∈ s.reed, isNaN q.last ∨ inUnitRange q.last) ∧
  (∀ q ∈ s.jet, isNaN q.last ∨ inUnitRange q.last) ∧
  (∀ q ∈ s.env, isNaN q.target = false ∧ rateLegal q.rate) ∧
  (∀ q ∈ s.adsr, adsrLegal q) ∧
  (∀ q ∈ s.ns, inUnitRange q.last) ∧
  (∀ q ∈ s.osc, freqLegal s.fs q.freq) ∧
  inUnit s.voice.amp

/-! ## Rounding -/

/-- A finite binary32 word. -/
abbrev fFinite (x : F32) : Prop := fMag x < infMag

/-- `r` is the binary32 value nearest to `e`, ties to even (spec/00_scope.md R18): no finite value is nearer, and where
another one is equally near, the last fraction bit of `r` is 0. From half a unit above the largest finite value on, the
result is the infinity of `e`'s sign. -/
def Rounded (e : ℚ) (r : F32) : Prop :=
  if |e| < 2 ^ 128 - 2 ^ 103 then
    fFinite r ∧ (∀ z, fFinite z → |fVal r - e| ≤ |fVal z - e|) ∧
    (∀ z, fFinite z → fVal z ≠ fVal r → |fVal z - e| = |fVal r - e| → fMag r % 2 = 0)
  else fMag r = infMag ∧ (fNeg? r = true ↔ e < 0)

end Sys2Proof.Machine
end

