-- ==== Sys2Proof/Certificates/Slice0/Obligations.lean ====
section
/-! DEFINITION. The statements about STK-WG for the provers. `respond r ws t` is the response of a command that answers
`r`, raised the warnings `ws` in this order and left all other state as in `t`, so a result equation says what changes
and that nothing else does. -/

open Sys2Proof Sys2Proof.Machine

/-! ## Packets and the decoder -/

/-- Decoding the packet of a well-formed command gives the command back: no bit of an encoding is dropped
(spec/30_encoding.md R141, R142, R149). -/
def Obligations.DecodeOfEncodeIsTheCommand : Prop :=
  ∀ i : Instr, WellFormed i → decode (encode i) = .ok i

/-- A packet that decodes gives a well-formed command, and the encoder writes that command's word bit for bit: a command
word has one meaning (spec/30_encoding.md R141, R149, R152). -/
def Obligations.DecodedCommandKeepsItsWord : Prop :=
  ∀ (p : Packet) (i : Instr), decode p = .ok i → WellFormed i ∧ (encode i).cmd = p.cmd

/-- Words written out from the fields of spec/30_encoding.md R141 and the rows of R149 decode to the commands of those
rows, with UNIT from bits 23:16, IMM from bits 15:0 and the operands from A and B (R142). -/
def Obligations.SampleWordsDecode : Prop :=
  decode ⟨0x00000000#32, 0x1#32, 0x2#32⟩ = .ok .sysNop ∧
  decode ⟨0x0F000004#32, 0xAABBCCDD#32, 0#32⟩ = .ok (.sysWrReg 4 0xAABBCCDD#32) ∧
  decode ⟨0x10050000#32, 0x41280000#32, 0#32⟩ = .ok (.dlSetDelay 5 0x41280000#32) ∧
  decode ⟨0x2E010003#32, 0#32, 0#32⟩ = .ok (.opRdReg 1 3) ∧
  decode ⟨0x31000000#32, 0x3F000000#32, 0#32⟩ = .ok (.ozSetGain 0 0x3F000000#32) ∧
  decode ⟨0x43070000#32, 0x3F7D70A4#32, 0#32⟩ = .ok (.pzSetBlockZero 7 0x3F7D70A4#32) ∧
  decode ⟨0x50020000#32, 0x447A0000#32, 0x3F666666#32⟩ = .ok (.bqSetFreqReson 2 0x447A0000#32 0x3F666666#32) ∧
  decode ⟨0x62000000#32, 0x3DCCCCCD#32, 0#32⟩ = .ok (.bowTick 0 0x3DCCCCCD#32) ∧
  decode ⟨0x7E000001#32, 0#32, 0#32⟩ = .ok (.reedRdReg 0 1) ∧
  decode ⟨0x82FF0000#32, 0x3F000000#32, 0#32⟩ = .ok (.jetTick 255 0x3F000000#32) ∧
  decode ⟨0x92000000#32, 0x3F000000#32, 0x3E800000#32⟩ = .ok (.lipTick 0 0x3F000000#32 0x3E800000#32) ∧
  decode ⟨0xA1030000#32, 0x3F800000#32, 0#32⟩ = .ok (.envSetTarget 3 0x3F800000#32) ∧
  decode ⟨0xB6000000#32, 0#32, 0#32⟩ = .ok (.adsrTick 0) ∧
  decode ⟨0xC0000000#32, 0x12345678#32, 0#32⟩ = .ok (.nsSeed 0 0x12345678#32) ∧
  decode ⟨0xD301FFFF#32, 0x3F800000#32, 0#32⟩ = .ok (.oscTblWr 1 65535 0x3F800000#32) ∧
  decode ⟨0xE0000000#32, 0x43DC0000#32, 0x3F4CCCCD#32⟩ = .ok (.vNoteOn 0x43DC0000#32 0x3F4CCCCD#32) ∧
  decode ⟨0xE400000B#32, 0x3F800000#32, 0#32⟩ = .ok (.vCc 11 0x3F800000#32)

/-- Every illegal packet of spec/30_encoding.md R150 is refused: a reserved opcode, a UNIT out of range, a nonzero UNIT on
SYS or VOICE, a nonzero IMM where the opcode map says none. A refusal answers R 0 and WARN 0x40 and changes no state but
the warning state. The opcodes are listed as R149 lists them. -/
def Obligations.IllegalPacketsAreRefused : Prop :=
  ∀ (p : Packet) (s : State),
    let op := (p.cmd.extractLsb' 24 8).toNat
    let unit := (p.cmd.extractLsb' 16 8).toNat
    let imm := (p.cmd.extractLsb' 0 16).toNat
    let withoutImm := [0x00, 0x01, 0x10, 0x11, 0x12, 0x13, 0x14, 0x20, 0x21, 0x22, 0x23, 0x24, 0x30, 0x31, 0x32, 0x33,
      0x34, 0x40, 0x41, 0x42, 0x43, 0x44, 0x45, 0x46, 0x50, 0x51, 0x52, 0x53, 0x54, 0x60, 0x61, 0x62, 0x70, 0x71, 0x72,
      0x82, 0x90, 0x91, 0x92, 0x93, 0x94, 0xA0, 0xA1, 0xA2, 0xA3, 0xA4, 0xA5, 0xB0, 0xB1, 0xB2, 0xB3, 0xB4, 0xB5, 0xB6,
      0xC0, 0xC1, 0xD0, 0xD1, 0xD2, 0xE0, 0xE1, 0xE2, 0xE3, 0xE6, 0xE7]
    let withImm := [0x0E, 0x0F, 0x1E, 0x2E, 0x3E, 0x4E, 0x55, 0x5E, 0x6E, 0x7E, 0x8E, 0x95, 0x9E, 0xAE, 0xBE, 0xCE, 0xD3,
      0xD4, 0xDE, 0xE4, 0xE5, 0xEE, 0xEF]
    let counts := [1, s.dl.length, s.op.length, s.oz.length, s.pz.length, s.bq.length, s.bow.length, s.reed.length,
      s.jet.length, s.lip.length, s.env.length, s.adsr.length, s.ns.length, s.osc.length, 1]
    op ∉ withoutImm ++ withImm ∨ (∃ n, counts[op / 16]? = some n ∧ n ≤ unit) ∨ (op ∈ withoutImm ∧ imm ≠ 0) →
      runPacket p s = .next (respond 0#32 [.illegal] s)

/-- A command ignores an operand word its row does not use (spec/30_encoding.md R140, R149): only four opcodes read B, and
those listed read A. -/
def Obligations.UnusedOperandWordsAreIgnored : Prop :=
  ∀ (c a a' b b' : Word) (s : State),
    let op := (c.extractLsb' 24 8).toNat
    (op ∉ [0x50, 0x90, 0x92, 0xE0] → runPacket ⟨c, a, b⟩ s = runPacket ⟨c, a, b'⟩ s) ∧
    (op ∉ [0x0F, 0x10, 0x11, 0x14, 0x20, 0x21, 0x22, 0x30, 0x31, 0x32, 0x40, 0x41, 0x42, 0x43, 0x44, 0x50, 0x52, 0x55,
        0x60, 0x61, 0x62, 0x70, 0x71, 0x72, 0x82, 0x90, 0x92, 0x95, 0xA0, 0xA1, 0xA2, 0xB0, 0xB1, 0xB2, 0xB3, 0xC0,
        0xD0, 0xD3, 0xE0, 0xE1, 0xE2, 0xE4, 0xEF] →
      runPacket ⟨c, a, b⟩ s = runPacket ⟨c, a', b⟩ s)

/-! ## The step -/

/-- A step runs the decoded command: when the host's next event is a packet that decodes to `i`, the step is `exec i` on
the state without that event; when the packet is no command, the step is the refusal (spec/30_encoding.md R147, R148).
Between commands all state is held and only reset changes it: a step without a packet leaves the port ready and all else
as it was, and a step with `rst` leaves the reset state (spec/60_exceptions.md R546, spec/70_reset_and_hazards.md R570).
The event list is the model's own form of the command port (log 7, log 8, log 10). -/
def Obligations.StepRunsTheDecodedCommand : Prop :=
  ∀ (s : State) (p : Packet) (es : List HostEvent),
    (∀ i, s.inbox = .command p :: es → decode p = .ok i → WellFormed i ∧ step s = exec i { s with inbox := es }) ∧
    (∀ e, s.inbox = .command p :: es → decode p = .error e →
      step s = .next (respond 0#32 [.illegal] { s with inbox := es })) ∧
    (s.inbox = [] → step s = .next { s with cmdReady := true, rspValid := false }) ∧
    (s.inbox = .idle :: es → step s = .next { s with cmdReady := true, rspValid := false, inbox := es }) ∧
    (s.inbox = .rst :: es ∨ s.inbox = .abandoned p :: es → step s = .next (restart { s with inbox := es }))

/-- No command is fatal and no state makes the block stop accepting commands: every command and every step answers a next
state (spec/60_exceptions.md R538). -/
def Obligations.EveryCommandAndStepCompletes : Prop :=
  (∀ (i : Instr) (s : State), ∃ t, exec i s = .next t) ∧ ∀ s : State, ∃ t, step s = .next t

/-! ## The clocked port -/

/-- From a ready port, a packet that is offered is accepted and, whatever the inputs but `rst` do meanwhile, the block
stands in the response cycle LAT edges after the acceptance (this many edges, the accepting one included), with exactly
the state one whole command leaves; in every cycle before it cmd_ready and rsp_valid are 0, in it rsp_valid is 1, and one
edge later the port is ready again (spec/30_encoding.md R145, R146; spec/00_scope.md R16). LAT less one is the free value
of log 5, and the statement holds whatever it is. -/
def Obligations.AcceptedPacketAnswersOnceAfterLatency : Prop :=
  ∀ (c : Clocked) (p : Packet) (t : State) (ins : List PortIn) (i : PortIn),
    c.phase = .ready → runPacket p c.block = .next t → (∀ j ∈ ins, j.rst = false) → i.rst = false →
    ins.length = Config.latencyLessOne c.served →
    let start : PortIn := { rst := false, cmdValid := true, packet := p }
    clockEdges (start :: ins) c = { block := t, phase := .responding, served := c.served + 1 } ∧
    (∀ k, k < ins.length →
      (portOut false (clockEdges (start :: ins.take k) c)).cmdReady = false ∧
      (portOut false (clockEdges (start :: ins.take k) c)).rspValid = false ∧
      (portOut false (clockEdges (start :: ins.take k) c)).rspR = c.block.rspR) ∧
    (portOut false (clockEdges (start :: ins) c)).rspValid = true ∧
    (portOut false (clockEdges (start :: ins) c)).cmdReady = false ∧
    (portOut false (clockEdges (start :: ins) c)).rspR = t.rspR ∧
    (portOut false (clockEdges (start :: (ins ++ [i])) c)).cmdReady = true ∧
    (portOut false (clockEdges (start :: (ins ++ [i])) c)).rspValid = false

/-! ## Reset -/

/-- The reset state of a build (spec/70_reset_and_hazards.md R571 and the reset columns of spec/10_state.md R33 to R55):
the words 0x3DCCCCCD, 0x3F19999A, 0xBF4CCCCD, 0x3A83126F and 0x3F000000 are 0.1, 0.6, -0.8, 0.001 and 0.5. -/
def Obligations.ResetStateOfEveryBuild : Prop :=
  ∀ b : Config.Build,
    let s := State.ofBuild b
    s.fs = b.fs ∧
    s.dl = b.dlLens.map (fun n => ({ lag := 0, wptr := 0, rptr := 0, alpha := 0, omalpha := 0x3F800000#32, last := 0,
                                     len := n, buf := [] } : DelayLine)) ∧
    s.op = List.replicate b.nOp { pole := 0, gain := 0x3F800000#32, sgain := 0x3F800000#32, last := 0 } ∧
    s.oz = List.replicate b.nOz
      { zero := 0, gain := 0x3F800000#32, b0 := 0x3F800000#32, b1 := 0, x1 := 0, last := 0 } ∧
    s.pz = List.replicate b.nPz { a1 := 0, b0 := 0x3F800000#32, b1 := 0, x1 := 0, last := 0 } ∧
    s.bq = List.replicate b.nBq
      { b0 := 0x3F800000#32, b1 := 0, b2 := 0, a1 := 0, a2 := 0, w1 := 0, w2 := 0, last := 0 } ∧
    s.bow = List.replicate b.nBow { offset := 0, slope := 0x3DCCCCCD#32, last := 0 } ∧
    s.reed = List.replicate b.nReed { offset := 0x3F19999A#32, slope := 0xBF4CCCCD#32, last := 0 } ∧
    s.jet = List.replicate b.nJet { last := 0 } ∧
    s.lip = List.replicate b.nLip
      { filter := { b0 := 0x3F800000#32, b1 := 0, b2 := 0, a1 := 0, a2 := 0, w1 := 0, w2 := 0, last := 0 },
        last := 0 } ∧
    s.env = List.replicate b.nEnv { value := 0, target := 0, rate := 0x3A83126F#32, state := .done } ∧
    s.adsr = List.replicate b.nAdsr
      { value := 0, target := 0, state := .idle, attack := 0x3A83126F#32, decay := 0x3A83126F#32,
        sustain := 0x3F000000#32, release := 0x3A83126F#32 } ∧
    s.ns = List.replicate b.nNs { state := 1, last := 0 } ∧
    s.osc = List.replicate b.nOsc { freq := 0, rate := 0, phase := 0, last := 0, len := b.oscT, tbl := [] } ∧
    s.voice.instr = .none ∧ s.voice.vstate = .idle ∧ (∀ x ∈ s.voice.floats, x = 0) ∧
    s.status = 0 ∧ s.irqEn = 0 ∧ s.lastWarn = 0 ∧ s.tickCount = 0 ∧
    s.cmdReady = true ∧ s.rspValid = false ∧ s.rspR = 0 ∧ s.rspWarn = 0 ∧ s.irq = false ∧
    (∀ d ∈ s.dl, ∀ k, memRead d.buf k = 0) ∧ (∀ o ∈ s.osc, ∀ k, memRead o.tbl k = 0)

/-- An edge with `rst = 1` puts the block into its reset state and abandons any command in execution, and while `rst = 1`
cmd_ready, rsp_valid and irq are 0 (spec/70_reset_and_hazards.md R570). SYS.RESET leaves the state that `rst` leaves, in
the response cycle of a command that answers R 0 and WARN 0x00; both leave the reset state of the block's own build (R572,
spec/48_system.md R501). Two fields are the model's own and kept by both: the host's coming events `inbox`, of which a
step with `rst` takes one (log 7, log 10), and the counter `drawCount` of the free noise draws (log 4). -/
def Obligations.BothResetsLeaveTheResetState : Prop :=
  (∀ (c : Clocked) (v : Bool) (p : Packet),
    clockEdge { rst := true, cmdValid := v, packet := p } c =
      { block := restart c.block, phase := .ready, served := c.served } ∧
    (portOut true c).cmdReady = false ∧ (portOut true c).rspValid = false ∧ (portOut true c).irq = false ∧
    (portOut false (clockEdge { rst := true, cmdValid := v, packet := p } c)).cmdReady = true) ∧
  (∀ s : State, exec .sysReset s = .next (respond 0#32 [] (restart s))) ∧
  (∀ (s : State) (es : List HostEvent), s.inbox = .rst :: es → ∃ t, step s = .next t ∧
    exec .sysReset { s with inbox := es } = .next { t with cmdReady := false, rspValid := true }) ∧
  ∀ (b : Config.Build) (s : State), buildKept (State.ofBuild b) s →
    restart s = { State.ofBuild b with inbox := s.inbox, drawCount := s.drawCount }

/-! ## Invariants that every step keeps -/

/-- Soundness is kept by every step: legal unit counts, both pointers of every line inside its buffer, every word space
in canonical form and inside its bounds, no noise source in the zero state, an existing LAST_WARN code, irq as STATUS and
IRQ_EN drive it (spec/00_scope.md R11 to R13, spec/20_memory.md R101, spec/44_sources.md R381, spec/60_exceptions.md
R535). The canonical form is the model's own (log 6). -/
def Obligations.EveryStepKeepsSoundness : Prop :=
  ∀ s t : State, s.Sound → step s = .next t → t.Sound

/-- The pointer invariant of spec/40_delay_line.md R206 is kept by every step, from every sound state in which every line
has it. -/
def Obligations.EveryStepKeepsThePointerInvariant : Prop :=
  ∀ s t : State, s.Sound → (∀ d ∈ s.dl, lineTrails d) → step s = .next t → ∀ d ∈ t.dl, lineTrails d

/-- No register, buffer word or table word ever holds a NaN other than 0x7FC00000 (spec/00_scope.md R19). -/
def Obligations.EveryStepKeepsNaNsCanonical : Prop :=
  ∀ s t : State, s.Canonical → step s = .next t → t.Canonical

/-- Every step keeps the legal values of spec/10_state.md: the bow, reed and jet outputs in bounds or NaN (R39 to R41), the
ENV target not NaN and the ENV rate not negative (R43 with spec/43_envelopes.md R340, R342), every ADSR register, TARGET
being 1.0, SUSTAIN or 0.0 by the stage (R44, R354), the noise outputs in [-1.0, 1.0] (R45), OSC.FREQ in [-FS/2, FS/2] for
a legal FS (R46, spec/44_sources.md R383) and the amplitude in [0.0, 1.0] (R48). Under DRAW the noise output is the free
value of log 4, in bounds whatever it is. -/
def Obligations.EveryStepKeepsLegalValues : Prop :=
  ∀ s t : State, s.InRange → step s = .next t → t.InRange

/-- No step changes what the build fixes: FS, NOISE_MODEL, COS32, the unit counts, the lengths of the lines and tables
(spec/00_scope.md R10 to R15). -/
def Obligations.EveryStepKeepsTheBuild : Prop :=
  ∀ s t : State, step s = .next t → buildKept s t

/-- The invariants hold at reset, for every legal build. -/
def Obligations.InvariantsHoldAtReset : Prop :=
  ∀ b : Config.Build, b.Legal →
    (State.ofBuild b).Sound ∧ (∀ d ∈ (State.ofBuild b).dl, lineTrails d) ∧ (State.ofBuild b).Canonical ∧
    (State.ofBuild b).InRange

/-! ## Rules of the whole machine -/

/-- Recording a warning (spec/60_exceptions.md R532, spec/10_state.md R52, R54) and the interrupt (R535): after every
command but SYS.RESET and a write of STATUS, STATUS is what it was with WARN added; LAST_WARN changes exactly where WARN
is not 0, and then it is a code whose bit WARN holds. At the end of every command irq is as STATUS and IRQ_EN drive it, in
the cycle in which rsp_valid is 1 and cmd_ready is 0 (spec/30_encoding.md R145). No command changes the host's coming
events `inbox`, a field of the model's own (log 7). -/
def Obligations.EveryCommandRecordsItsWarnings : Prop :=
  ∀ (i : Instr) (s t : State), exec i s = .next t →
    (i ≠ .sysReset → (∀ v, i ≠ .sysWrReg 1 v) → t.status = s.status ||| t.rspWarn) ∧
    (i ≠ .sysReset → t.rspWarn = 0#8 → t.lastWarn = s.lastWarn) ∧
    (t.rspWarn ≠ 0#8 → ∃ k, 1 ≤ k ∧ k ≤ 8 ∧ t.lastWarn = BitVec.ofNat 4 k ∧ t.rspWarn.getLsbD (k - 1) = true) ∧
    t.irq = ((t.status &&& t.irqEn) != 0#8) ∧ t.rspValid = true ∧ t.cmdReady = false ∧ t.inbox = s.inbox

/-- TICK_COUNT is increased by 1 modulo 2^32 by a V.TICK with an instrument selected, written by SYS.WRREG #4, cleared by
SYS.RESET, and changed by no other command (spec/10_state.md R55). -/
def Obligations.TickCountCountsVoiceTicksOnly : Prop :=
  ∀ (i : Instr) (s t : State), exec i s = .next t →
    t.tickCount =
      match i with
      | .vTick => if s.voice.instr = .none then s.tickCount else s.tickCount + 1#32
      | .sysWrReg 4 v => v
      | .sysReset => 0#32
      | _ => s.tickCount

/-- The voice state machine (spec/45_voice.md R422): the listed transitions and nothing else. With no instrument a VOICE
command other than V.SETINSTR makes none. ENV0 is envelope 0. INSTR changes by V.SETINSTR and SYS.RESET only (R421,
R423). -/
def Obligations.VoiceStateMachine : Prop :=
  ∀ (i : Instr) (s t : State), exec i s = .next t →
    (match i with
      | .vSetInstr id => t.voice.vstate = if id ≤ 4 then .idle else s.voice.vstate
      | .sysReset => t.voice.vstate = .idle
      | .vReset => t.voice.vstate = if s.voice.instr = .none then s.voice.vstate else .idle
      | .vNoteOn _ _ => t.voice.vstate = if s.voice.instr = .none then s.voice.vstate else .sounding
      | .vNoteOff _ =>
        t.voice.vstate = if s.voice.instr ≠ .none ∧ s.voice.vstate = .sounding then .releasing else s.voice.vstate
      | .vTick =>
        t.voice.vstate =
          if s.voice.instr ≠ .none ∧ s.voice.instr ≠ .plucked ∧ s.voice.vstate = .releasing ∧
            (t.envAt 0).state = .done ∧ feq (t.envAt 0).value fZero = true then .idle
          else s.voice.vstate
      | _ => t.voice.vstate = s.voice.vstate) ∧
    ((∀ id, i ≠ .vSetInstr id) → i ≠ .sysReset → t.voice.instr = s.voice.instr)

/-- A unit's state changes only by commands addressed to it or by voice commands (spec/41_filters.md R268): a command of a
unit class leaves every other unit and the voice as they were, and of the system registers TICK_COUNT and IRQ_EN (R53,
R55 of spec/10_state.md); STATUS and LAST_WARN change by its warnings only (R52, R54, spec/60_exceptions.md R532): STATUS
gains the bits of WARN, and with no warning both are as they were. A SYS command other than SYS.RESET leaves every unit
and the voice as they were. -/
def Obligations.UnitCommandsStayInTheirUnit : Prop :=
  ∀ (i : Instr) (s t : State), isVoice i = false → i ≠ .sysReset → exec i s = .next t →
    otherUnitsKept (target i) s t ∧ t.voice = s.voice ∧
    ((∀ r v, i ≠ .sysWrReg r v) → t.tickCount = s.tickCount ∧ t.irqEn = s.irqEn ∧ t.status = s.status ||| t.rspWarn ∧
      (t.rspWarn = 0#8 → t.status = s.status ∧ t.lastWarn = s.lastWarn))

/-- A VOICE command touches only the units of spec/45_voice.md R420: of each class unit 0, of DL and OP also unit 1, no
ADSR unit, and no system register but TICK_COUNT and the warning state. -/
def Obligations.VoiceCommandsTouchBoundUnitsOnly : Prop :=
  ∀ (i : Instr) (s t : State), isVoice i = true → exec i s = .next t →
    (∀ u, 2 ≤ u → t.dl[u]? = s.dl[u]? ∧ t.op[u]? = s.op[u]?) ∧
    (∀ u, 1 ≤ u → t.oz[u]? = s.oz[u]? ∧ t.pz[u]? = s.pz[u]? ∧ t.bq[u]? = s.bq[u]? ∧ t.bow[u]? = s.bow[u]? ∧
      t.reed[u]? = s.reed[u]? ∧ t.jet[u]? = s.jet[u]? ∧ t.lip[u]? = s.lip[u]? ∧ t.env[u]? = s.env[u]? ∧
      t.ns[u]? = s.ns[u]? ∧ t.osc[u]? = s.osc[u]?) ∧
    t.adsr = s.adsr ∧ t.irqEn = s.irqEn

/-- The wavetables are changed by OSC.TBLWR and a reset only (spec/20_memory.md R103), and the delay buffers by DL.TICK,
DL.CLEAR, V.TICK, V.NOTEON, V.RESET, V.SETINSTR and a reset only (R102, spec/70_reset_and_hazards.md R573); V.NOTEON
changes a buffer only for Plucked. -/
def Obligations.WordSpacesChangeByTheirCommandsOnly : Prop :=
  ∀ (i : Instr) (s t : State), exec i s = .next t → i ≠ .sysReset →
    ((∀ u k v, i ≠ .oscTblWr u k v) → t.osc.map (·.tbl) = s.osc.map (·.tbl)) ∧
    ((∀ u x, i ≠ .dlTick u x) → (∀ u, i ≠ .dlClear u) → i ≠ .vTick → i ≠ .vReset → (∀ k, i ≠ .vSetInstr k) →
      (s.voice.instr = .plucked → ∀ f a, i ≠ .vNoteOn f a) → t.dl.map (·.buf) = s.dl.map (·.buf))

/-- While INSTR is NONE every VOICE command but V.SETINSTR, V.RDREG and V.WRREG raises W_NO_INSTR, answers R 0 and does
nothing else (spec/45_voice.md R438, spec/30_encoding.md R148). -/
def Obligations.WithoutAnInstrumentVoiceCommandsStop : Prop :=
  ∀ (i : Instr) (s : State), isVoice i = true → (∀ k, i ≠ .vSetInstr k) → (∀ k, i ≠ .vRdReg k) →
    (∀ k v, i ≠ .vWrReg k v) → s.voice.instr = .none → exec i s = .next (respond 0#32 [.noInstr] s)

/-- An index out of range is refused and not wrapped (spec/20_memory.md R105, spec/60_exceptions.md R533): the coefficient,
buffer, table, instrument and register indices, and writes of read-only registers. -/
def Obligations.IndicesOutOfRangeAreRefused : Prop :=
  ∀ (s : State) (u k : Nat) (v : Word),
    let refused := Host.Outcome.next (φ := Fault) (ρ := Refusal) (respond 0#32 [.illegal] s)
    (4 < k → exec (.bqSetCoef u k v) s = refused ∧ exec (.lipSetCoef u k v) s = refused ∧
      exec (.vSetInstr k) s = refused) ∧
    (∀ d, s.dl[u]? = some d → d.len ≤ v.toNat → exec (.dlBufRd u v) s = refused) ∧
    (∀ o, s.osc[u]? = some o → o.len ≤ k → exec (.oscTblWr u k v) s = refused ∧ exec (.oscTblRd u k) s = refused) ∧
    (k ∉ [1, 2, 4] → exec (.sysWrReg k v) s = refused) ∧
    (k < 8 ∨ 23 < k → exec (.vWrReg k v) s = refused) ∧
    (9 < k → exec (.sysRdReg k) s = refused) ∧
    (5 < k ∧ k < 8 ∨ 23 < k → exec (.vRdReg k) s = refused) ∧
    (6 < k → exec (.dlRdReg u k) s = refused ∧ exec (.adsrRdReg u k) s = refused) ∧
    (3 < k → exec (.opRdReg u k) s = refused ∧ exec (.envRdReg u k) s = refused) ∧
    (5 < k → exec (.ozRdReg u k) s = refused) ∧
    (4 < k → exec (.pzRdReg u k) s = refused ∧ exec (.oscRdReg u k) s = refused) ∧
    (7 < k → exec (.bqRdReg u k) s = refused) ∧
    (2 < k → exec (.bowRdReg u k) s = refused ∧ exec (.reedRdReg u k) s = refused) ∧
    (0 < k → exec (.jetRdReg u k) s = refused) ∧
    (8 < k → exec (.lipRdReg u k) s = refused) ∧
    (1 < k → exec (.nsRdReg u k) s = refused)

/-! ## Registers read by index -/

/-- A unit register read by its index answers the register's word and changes nothing else: the lists are the tables of
spec/10_state.md R33 and R35 to R46, index by index, and every LASTOUT answers LAST (spec/40_delay_line.md
R202, R205, spec/41_filters.md R244, R250, R258, R264, spec/42_nonlinear.md R314). -/
def Obligations.UnitRegisterReads : Prop :=
  ∀ (s : State) (u k : Nat) (w : Word),
    (∀ q, s.dl[u]? = some q →
      [q.lag, BitVec.ofNat 32 q.wptr, BitVec.ofNat 32 q.rptr, q.alpha, q.omalpha, q.last, BitVec.ofNat 32 q.len][k]? =
        some w → exec (.dlRdReg u k) s = .next (respond w [] s)) ∧
    (∀ q, s.op[u]? = some q → [q.pole, q.gain, q.sgain, q.last][k]? = some w →
      exec (.opRdReg u k) s = .next (respond w [] s)) ∧
    (∀ q, s.oz[u]? = some q → [q.zero, q.gain, q.b0, q.b1, q.x1, q.last][k]? = some w →
      exec (.ozRdReg u k) s = .next (respond w [] s)) ∧
    (∀ q, s.pz[u]? = some q → [q.a1, q.b0, q.b1, q.x1, q.last][k]? = some w →
      exec (.pzRdReg u k) s = .next (respond w [] s)) ∧
    (∀ q, s.bq[u]? = some q → [q.b0, q.b1, q.b2, q.a1, q.a2, q.w1, q.w2, q.last][k]? = some w →
      exec (.bqRdReg u k) s = .next (respond w [] s)) ∧
    (∀ q, s.bow[u]? = some q → [q.offset, q.slope, q.last][k]? = some w →
      exec (.bowRdReg u k) s = .next (respond w [] s)) ∧
    (∀ q, s.reed[u]? = some q → [q.offset, q.slope, q.last][k]? = some w →
      exec (.reedRdReg u k) s = .next (respond w [] s)) ∧
    (∀ q, s.jet[u]? = some q → [q.last][k]? = some w → exec (.jetRdReg u k) s = .next (respond w [] s)) ∧
    (∀ q, s.lip[u]? = some q →
      [q.filter.b0, q.filter.b1, q.filter.b2, q.filter.a1, q.filter.a2, q.filter.w1, q.filter.w2, q.filter.last,
        q.last][k]? = some w → exec (.lipRdReg u k) s = .next (respond w [] s)) ∧
    (∀ q, s.env[u]? = some q →
      [q.value, q.target, q.rate, match q.state with | .done => 0#32 | .ramp => 1#32][k]? = some w →
      exec (.envRdReg u k) s = .next (respond w [] s)) ∧
    (∀ q, s.adsr[u]? = some q →
      [q.value, q.target,
        match q.state with | .attack => 0#32 | .decay => 1#32 | .sustain => 2#32 | .release => 3#32 | .idle => 4#32,
        q.attack, q.decay, q.sustain, q.release][k]? = some w → exec (.adsrRdReg u k) s = .next (respond w [] s)) ∧
    (∀ q, s.ns[u]? = some q → [q.state, q.last][k]? = some w → exec (.nsRdReg u k) s = .next (respond w [] s)) ∧
    (∀ q, s.osc[u]? = some q → [q.freq, q.rate, q.phase, q.last, BitVec.ofNat 32 q.len][k]? = some w →
      exec (.oscRdReg u k) s = .next (respond w [] s)) ∧
    (∀ q, s.dl[u]? = some q → exec (.dlLastOut u) s = .next (respond q.last [] s)) ∧
    (∀ q, s.op[u]? = some q → exec (.opLastOut u) s = .next (respond q.last [] s)) ∧
    (∀ q, s.oz[u]? = some q → exec (.ozLastOut u) s = .next (respond q.last [] s)) ∧
    (∀ q, s.pz[u]? = some q → exec (.pzLastOut u) s = .next (respond q.last [] s)) ∧
    (∀ q, s.bq[u]? = some q → exec (.bqLastOut u) s = .next (respond q.last [] s)) ∧
    (∀ q, s.lip[u]? = some q → exec (.lipLastOut u) s = .next (respond q.last [] s))

/-- The system registers (spec/10_state.md R51 to R58) by SYS.RDREG, and what SYS.NOP, which is also the all-zero packet,
and SYS.WRREG do (spec/48_system.md R500, R502, R503, spec/30_encoding.md R151): a write of STATUS clears the bits written 1, a write of IRQ_EN keeps bits 7:0. The counts of CONFIG0
to CONFIG3 stand in bits 7:0, 15:8, 23:16 and 31:24 in the order of R57, each at most 255 (spec/00_scope.md R11). -/
def Obligations.SystemCommands : Prop :=
  ∀ (s : State) (k : Nat) (v w : Word),
    let pack (a b c d : Nat) : Word := BitVec.ofNat 32 (a + 256 * b + 65536 * c + 16777216 * d)
    exec .sysNop s = .next (respond 0#32 [] s) ∧ runPacket ⟨0#32, 0#32, 0#32⟩ s = .next (respond 0#32 [] s) ∧
    (countsLegal s →
      [0x53574701#32, s.status.zeroExtend 32, s.irqEn.zeroExtend 32, s.lastWarn.zeroExtend 32, s.tickCount,
        pack s.dl.length s.op.length s.oz.length s.pz.length,
        pack s.bq.length s.bow.length s.reed.length s.jet.length,
        pack s.lip.length s.env.length s.adsr.length s.ns.length, pack s.osc.length 0 0 0, s.fs][k]? = some w →
      exec (.sysRdReg k) s = .next (respond w [] s)) ∧
    exec (.sysWrReg 1 v) s =
      .next (respond 0#32 [] { s with status := s.status &&& ~~~(BitVec.ofNat 8 (v.toNat % 256)) }) ∧
    exec (.sysWrReg 2 v) s = .next (respond 0#32 [] { s with irqEn := BitVec.ofNat 8 (v.toNat % 256) }) ∧
    exec (.sysWrReg 4 v) s = .next (respond 0#32 [] { s with tickCount := v })

/-! ## Delay lines -/

/-- DL.SETDELAY (spec/40_delay_line.md R200): -0.0 as +0.0; NaN or a negative lag as 0.0 and a lag above `f32(L - 1)` as
that, each with W_DELAY_RANGE. With `n` the integer part of the lag in effect, RPTR is `WPTR - n` modulo L and ALPHA 0.0
for an integer lag, else `WPTR - n - 1` and `fl(1.0 - f)`; OMALPHA is `fl(1.0 - ALPHA)`; nothing else changes. -/
def Obligations.DelayLineLagSetting : Prop :=
  ∀ (s : State) (u : Nat) (a : Word) (d : DelayLine),
    s.dl[u]? = some d → 1 ≤ d.len → d.len ≤ 16777216 → d.wptr < d.len →
    let x := asF32 a
    let max := fOfNat (d.len - 1)
    let line (lag : F32) : DelayLine :=
      if fVal lag = (⌊fVal lag⌋ : ℚ) then
        { d with lag := lag, rptr := (((d.wptr : ℤ) - ⌊fVal lag⌋) % (d.len : ℤ)).toNat,
                 alpha := 0x00000000#32, omalpha := 0x3F800000#32 }
      else
        { d with lag := lag, rptr := (((d.wptr : ℤ) - ⌊fVal lag⌋ - 1) % (d.len : ℤ)).toNat,
                 alpha := fsub fOne (ffrac lag), omalpha := fsub fOne (fsub fOne (ffrac lag)) }
    let placed (lag : F32) : State := { s with dl := s.dl.set u (line lag) }
    (fMag x = 0 → exec (.dlSetDelay u a) s = .next (respond 0#32 [] (placed 0x00000000#32))) ∧
    (fMag x ≠ 0 → fle fZero x = true → fle x max = true →
      exec (.dlSetDelay u a) s = .next (respond 0#32 [] (placed x))) ∧
    (isNaN x = true ∨ flt x fZero = true →
      exec (.dlSetDelay u a) s = .next (respond 0#32 [.delayRange] (placed 0x00000000#32))) ∧
    (flt max x = true → exec (.dlSetDelay u a) s = .next (respond 0#32 [.delayRange] (placed max))) ∧
    (fFinite max ∧ fVal max = (d.len : ℚ) - 1) ∧ (fFinite x → 0 ≤ fVal x → fVal (ffrac x) = fVal x - ⌊fVal x⌋)

/-- DL.TICK, DL.CLEAR and DL.BUFRD (spec/40_delay_line.md R201, R203, R204): a tick writes the sample at WPTR before the two
reads at RPTR and RPTR + 1 modulo L, answers their weighted sum and advances both pointers modulo L; a clear zeroes the
buffer and LAST and keeps both pointers, LAG, ALPHA and OMALPHA; a buffer read answers one word and changes nothing. -/
def Obligations.DelayLineTickClearAndRead : Prop :=
  ∀ (s : State) (u : Nat) (a : Word) (d : DelayLine), s.dl[u]? = some d →
    let buf := memWrite d.buf d.wptr (asF32 a)
    let y := fadd (fmul d.omalpha (memRead buf d.rptr)) (fmul d.alpha (memRead buf ((d.rptr + 1) % d.len)))
    let put (e : DelayLine) : State := { s with dl := s.dl.set u e }
    exec (.dlTick u a) s = .next (respond y []
      (put { d with buf := buf, wptr := (d.wptr + 1) % d.len, rptr := (d.rptr + 1) % d.len, last := y })) ∧
    exec (.dlClear u) s = .next (respond 0#32 [] (put { d with buf := [], last := 0#32 })) ∧
    (a.toNat < d.len → exec (.dlBufRd u a) s = .next (respond (memRead d.buf a.toNat) [] s))

/-- The words a delay-line or table write leaves (spec/20_memory.md R101): in a sound block, after DL.TICK the word at
WPTR is the sample and every other word of every line is as before; after OSC.TBLWR the word at the index is the value
and every other word of every table is as before; after DL.CLEAR every word of the line is 0.0. -/
def Obligations.WordWritesAreExact : Prop :=
  ∀ (s t : State) (u k : Nat) (a : Word), s.Sound →
    (∀ d, s.dl[u]? = some d → exec (.dlTick u a) s = .next t →
      ∀ v j e e', s.dl[v]? = some e → t.dl[v]? = some e' →
        memRead e'.buf j = if v = u ∧ j = d.wptr then asF32 a else memRead e.buf j) ∧
    (exec (.dlClear u) s = .next t →
      ∀ v j e e', s.dl[v]? = some e → t.dl[v]? = some e' →
        memRead e'.buf j = if v = u then 0#32 else memRead e.buf j) ∧
    (∀ o, s.osc[u]? = some o → k < o.len → exec (.oscTblWr u k a) s = .next t →
      ∀ v j e e', s.osc[v]? = some e → t.osc[v]? = some e' →
        memRead e'.tbl j = if v = u ∧ j = k then asF32 a else memRead e.tbl j)

/-- The impulse response of a delay line (spec/40_delay_line.md R207): from a cleared line, the lag set to a finite value
the line can hold, then a finite sample `x` and zeros. Tick `n`, the integer part of the lag, answers `x` for an integer
lag and `fl(ALPHA × x)` otherwise, tick `n + 1` then answers `fl(OMALPHA × x)`, and every other tick up to `L - 1` answers
0.0, the values compared as numbers. `dlTick` and `dlSetDelay` are what DL.TICK and DL.SETDELAY do to the line. -/
def Obligations.DelayLineImpulseResponse : Prop :=
  ∀ (d : DelayLine) (lag x : F32) (n k : Nat),
    lineSound d → d.buf = [] → fFinite x → fFinite lag → 0 ≤ fVal lag → (n : ℤ) = ⌊fVal lag⌋ → n + 2 ≤ d.len →
    fVal lag ≤ (d.len : ℚ) - 1 → k < d.len →
    let e := dlSetDelay d lag
    let y := ((fun f => dlTick f fZero)^[k] (dlTick e x)).last
    let whole := fVal lag = (n : ℚ)
    (whole → k = n → feq y x = true) ∧
    (¬ whole → k = n → feq y (fmul e.alpha x) = true) ∧
    (¬ whole → k = n + 1 → feq y (fmul e.omalpha x) = true) ∧
    (k ≠ n → (¬ whole → k ≠ n + 1) → feq y fZero = true)

/-! ## Filters -/

/-- The one-pole commands (spec/41_filters.md R240 to R243). -/
def Obligations.OnePoleCommands : Prop :=
  ∀ (s : State) (u : Nat) (a : Word) (q : OnePole), s.op[u]? = some q →
    let x := asF32 a
    let y := fadd (fmul q.sgain x) (fmul q.pole q.last)
    exec (.opSetPole u a) s = .next (respond 0#32 []
      { s with op := s.op.set u { q with pole := x, sgain := fmul q.gain (fsub fOne (fabs x)) } }) ∧
    exec (.opSetGain u a) s = .next (respond 0#32 []
      { s with op := s.op.set u { q with gain := x, sgain := fmul x (fsub fOne (fabs q.pole)) } }) ∧
    exec (.opTick u a) s = .next (respond y [] { s with op := s.op.set u { q with last := y } }) ∧
    exec (.opClear u) s = .next (respond 0#32 [] { s with op := s.op.set u { q with last := 0#32 } })

/-- The one-zero commands (spec/41_filters.md R246 to R249). -/
def Obligations.OneZeroCommands : Prop :=
  ∀ (s : State) (u : Nat) (a : Word) (q : OneZero), s.oz[u]? = some q →
    let x := asF32 a
    let y := fadd (fmul q.b0 x) (fmul q.b1 q.x1)
    let zeroB0 := fdiv q.gain (fadd fOne (fabs x))
    let gainB0 := fdiv x (fadd fOne (fabs q.zero))
    exec (.ozSetZero u a) s = .next (respond 0#32 []
      { s with oz := s.oz.set u { q with zero := x, b0 := zeroB0, b1 := fmul (fneg x) zeroB0 } }) ∧
    exec (.ozSetGain u a) s = .next (respond 0#32 []
      { s with oz := s.oz.set u { q with gain := x, b0 := gainB0, b1 := fmul (fneg q.zero) gainB0 } }) ∧
    exec (.ozTick u a) s = .next (respond y [] { s with oz := s.oz.set u { q with x1 := x, last := y } }) ∧
    exec (.ozClear u) s = .next (respond 0#32 [] { s with oz := s.oz.set u { q with x1 := 0#32, last := 0#32 } })

/-- The pole-zero commands (spec/41_filters.md R252 to R257). -/
def Obligations.PoleZeroCommands : Prop :=
  ∀ (s : State) (u : Nat) (a : Word) (q : PoleZero), s.pz[u]? = some q →
    let x := asF32 a
    let y := fadd (fadd (fmul q.b0 x) (fmul q.b1 q.x1)) (fmul q.a1 q.last)
    exec (.pzSetA1 u a) s = .next (respond 0#32 [] { s with pz := s.pz.set u { q with a1 := x } }) ∧
    exec (.pzSetB0 u a) s = .next (respond 0#32 [] { s with pz := s.pz.set u { q with b0 := x } }) ∧
    exec (.pzSetB1 u a) s = .next (respond 0#32 [] { s with pz := s.pz.set u { q with b1 := x } }) ∧
    exec (.pzSetBlockZero u a) s = .next (respond 0#32 []
      { s with pz := s.pz.set u { q with b0 := 0x3F800000#32, b1 := 0xBF800000#32, a1 := x } }) ∧
    exec (.pzTick u a) s = .next (respond y [] { s with pz := s.pz.set u { q with x1 := x, last := y } }) ∧
    exec (.pzClear u) s = .next (respond 0#32 [] { s with pz := s.pz.set u { q with x1 := 0#32, last := 0#32 } })

/-- The biquad commands (spec/41_filters.md R260 to R263, R265): direct form II, poles at `r·e^{±j·th}` by the COS32 the
build chose. -/
def Obligations.BiquadCommands : Prop :=
  ∀ (s : State) (u : Nat) (a b : Word) (q : Biquad), s.bq[u]? = some q →
    let x := asF32 a
    let r := asF32 b
    let th := fdiv (fmul 0x40C90FDB#32 x) s.fs
    let w := fadd (fadd x (fmul q.a1 q.w1)) (fmul q.a2 q.w2)
    let y := fadd (fadd (fmul q.b0 w) (fmul q.b1 q.w1)) (fmul q.b2 q.w2)
    let put (p : Biquad) : State := { s with bq := s.bq.set u p }
    exec (.bqSetFreqReson u a b) s = .next (respond 0#32 []
      (put { q with a1 := fmul (fmul 0x40000000#32 r) (cos32 s.cosine th), a2 := fneg (fmul r r) })) ∧
    exec (.bqSetEqualGainZeroes u) s = .next (respond 0#32 []
      (put { q with b0 := 0x3F800000#32, b1 := 0#32, b2 := 0xBF800000#32 })) ∧
    exec (.bqTick u a) s = .next (respond y [] (put { q with w2 := q.w1, w1 := w, last := y })) ∧
    exec (.bqClear u) s = .next (respond 0#32 [] (put { q with w1 := 0#32, w2 := 0#32, last := 0#32 })) ∧
    exec (.bqSetCoef u 0 a) s = .next (respond 0#32 [] (put { q with b0 := x })) ∧
    exec (.bqSetCoef u 1 a) s = .next (respond 0#32 [] (put { q with b1 := x })) ∧
    exec (.bqSetCoef u 2 a) s = .next (respond 0#32 [] (put { q with b2 := x })) ∧
    exec (.bqSetCoef u 3 a) s = .next (respond 0#32 [] (put { q with a1 := x })) ∧
    exec (.bqSetCoef u 4 a) s = .next (respond 0#32 [] (put { q with a2 := x }))

/-! ## Scattering tables -/

/-- The bow, reed and jet commands (spec/42_nonlinear.md R300 to R302, R304 to R306, R308): a tick changes the unit's LAST
only (R317). 0x3F400000 is 0.75. -/
def Obligations.ScatteringTableCommands : Prop :=
  ∀ (s : State) (u : Nat) (a : Word),
    let x := asF32 a
    let clamped (y : F32) : F32 :=
      if flt 0x3F800000#32 y then 0x3F800000#32 else if flt y 0xBF800000#32 then 0xBF800000#32 else y
    (∀ q, s.bow[u]? = some q →
      let t := fadd (fabs (fadd (fmul x q.slope) q.offset)) 0x3F400000#32
      let raw := fdiv 0x3F800000#32 (fmul (fmul t t) (fmul t t))
      let y := if flt 0x3F800000#32 raw then 0x3F800000#32 else raw
      exec (.bowSetOffset u a) s = .next (respond 0#32 [] { s with bow := s.bow.set u { q with offset := x } }) ∧
      exec (.bowSetSlope u a) s = .next (respond 0#32 [] { s with bow := s.bow.set u { q with slope := x } }) ∧
      exec (.bowTick u a) s = .next (respond y [] { s with bow := s.bow.set u { q with last := y } })) ∧
    (∀ q, s.reed[u]? = some q →
      let y := clamped (fadd q.offset (fmul q.slope x))
      exec (.reedSetOffset u a) s = .next (respond 0#32 [] { s with reed := s.reed.set u { q with offset := x } }) ∧
      exec (.reedSetSlope u a) s = .next (respond 0#32 [] { s with reed := s.reed.set u { q with slope := x } }) ∧
      exec (.reedTick u a) s = .next (respond y [] { s with reed := s.reed.set u { q with last := y } })) ∧
    (∀ q, s.jet[u]? = some q →
      let y := clamped (fmul x (fsub (fmul x x) 0x3F800000#32))
      exec (.jetTick u a) s = .next (respond y [] { s with jet := s.jet.set u { q with last := y } }))

/-- The table bounds as spec/42_nonlinear.md R319 prints them: every non-NaN operand and parameter gives a value in
[0.0, 1.0] from BOW.TICK and in [-1.0, 1.0] from REED.TICK and JET.TICK. An infinite parameter or operand times 0.0 is
NaN by the same file's R302 and R306, so this is expected to fail (log 17). -/
def Obligations.TableBoundsForEveryNumber : Prop :=
  ∀ (b : Bow) (r : Reed) (x : F32), isNaN x = false →
    isNaN b.offset = false → isNaN b.slope = false → isNaN r.offset = false → isNaN r.slope = false →
    inUnit (bowOut b x) = true ∧ inUnitRange (reedOut r x) = true ∧ inUnitRange (jetOut x) = true

/-- The table bounds of spec/42_nonlinear.md R302, R306 and R319 for finite operands and finite parameters; and for every
operand and every parameter the output is a NaN or in the bounds. -/
def Obligations.TableBoundsForFiniteOperands : Prop :=
  ∀ (b : Bow) (r : Reed) (x : F32),
    (fFinite x → fFinite b.offset → fFinite b.slope → inUnit (bowOut b x) = true) ∧
    (fFinite x → fFinite r.offset → fFinite r.slope → inUnitRange (reedOut r x) = true) ∧
    (isNaN x = false → inUnitRange (jetOut x) = true) ∧
    (isNaN (bowOut b x) = true ∨ inUnit (bowOut b x) = true) ∧
    (isNaN (reedOut r x) = true ∨ inUnitRange (reedOut r x) = true) ∧
    (isNaN (jetOut x) = true ∨ inUnitRange (jetOut x) = true)

/-- The lip commands (spec/42_nonlinear.md R310 to R313, R315): the embedded biquad's step, its squared output clamped at
1.0 as the weight of the mouth pressure, one less the weight on the bore pressure. -/
def Obligations.LipCommands : Prop :=
  ∀ (s : State) (u : Nat) (a b : Word) (q : Lip), s.lip[u]? = some q →
    let g := q.filter
    let m := asF32 a
    let p := asF32 b
    let th := fdiv (fmul 0x40C90FDB#32 m) s.fs
    let w0 := fadd (fadd (fsub m p) (fmul g.a1 g.w1)) (fmul g.a2 g.w2)
    let f := fadd (fadd (fmul g.b0 w0) (fmul g.b1 g.w1)) (fmul g.b2 g.w2)
    let w := if flt 0x3F800000#32 (fmul f f) then 0x3F800000#32 else fmul f f
    let y := fadd (fmul w m) (fmul (fsub 0x3F800000#32 w) p)
    let put (h : Biquad) (last : F32) : State := { s with lip := s.lip.set u { filter := h, last := last } }
    exec (.lipSetFreqReson u a b) s = .next (respond 0#32 []
      (put { g with a1 := fmul (fmul 0x40000000#32 p) (cos32 s.cosine th), a2 := fneg (fmul p p) } q.last)) ∧
    exec (.lipSetEqualGainZeroes u) s = .next (respond 0#32 []
      (put { g with b0 := 0x3F800000#32, b1 := 0#32, b2 := 0xBF800000#32 } q.last)) ∧
    exec (.lipTick u a b) s = .next (respond y [] (put { g with w2 := g.w1, w1 := w0, last := f } y)) ∧
    exec (.lipClear u) s = .next (respond 0#32 [] (put { g with w1 := 0#32, w2 := 0#32, last := 0#32 } 0#32)) ∧
    exec (.lipSetCoef u 0 a) s = .next (respond 0#32 [] (put { g with b0 := m } q.last)) ∧
    exec (.lipSetCoef u 1 a) s = .next (respond 0#32 [] (put { g with b1 := m } q.last)) ∧
    exec (.lipSetCoef u 2 a) s = .next (respond 0#32 [] (put { g with b2 := m } q.last)) ∧
    exec (.lipSetCoef u 3 a) s = .next (respond 0#32 [] (put { g with a1 := m } q.last)) ∧
    exec (.lipSetCoef u 4 a) s = .next (respond 0#32 [] (put { g with a2 := m } q.last))

/-! ## Envelopes -/

/-- The envelope setters (spec/43_envelopes.md R340 to R345): a NaN rate is 0.0 and a negative one its magnitude, both with
W_PARAM_RANGE; a NaN target or value changes nothing but the warning state; the state is RAMP unless the target is the
value already. -/
def Obligations.EnvelopeSetters : Prop :=
  ∀ (s : State) (u : Nat) (a : Word) (q : Env), s.env[u]? = some q →
    let x := asF32 a
    let put (r : Env) : State := { s with env := s.env.set u r }
    let aimed (t : F32) : State := put { q with target := t, state := if feq t q.value then .done else .ramp }
    (isNaN x = true → exec (.envSetRate u a) s = .next (respond 0#32 [.paramRange] (put { q with rate := 0#32 }))) ∧
    (flt x fZero = true →
      exec (.envSetRate u a) s = .next (respond 0#32 [.paramRange] (put { q with rate := fabs x }))) ∧
    (fle fZero x = true → exec (.envSetRate u a) s = .next (respond 0#32 [] (put { q with rate := x }))) ∧
    (isNaN x = true → exec (.envSetTarget u a) s = .next (respond 0#32 [.paramRange] s)) ∧
    (isNaN x = false → exec (.envSetTarget u a) s = .next (respond 0#32 [] (aimed x))) ∧
    (isNaN x = true → exec (.envSetValue u a) s = .next (respond 0#32 [.paramRange] s)) ∧
    (isNaN x = false → exec (.envSetValue u a) s =
      .next (respond 0#32 [] (put { q with value := x, target := x, state := .done }))) ∧
    exec (.envKeyOn u) s = .next (respond 0#32 [] (aimed 0x3F800000#32)) ∧
    exec (.envKeyOff u) s = .next (respond 0#32 [] (aimed 0x00000000#32))

/-- ENV.TICK (spec/43_envelopes.md R346): a RAMP moves VALUE by RATE toward TARGET, meets TARGET exactly and is then DONE;
in DONE nothing changes. -/
def Obligations.EnvelopeTick : Prop :=
  ∀ (s : State) (u : Nat) (q : Env), s.env[u]? = some q →
    let up := fadd q.value q.rate
    let down := fsub q.value q.rate
    let ends (r : Env) : Prop := exec (.envTick u) s = .next (respond r.value [] { s with env := s.env.set u r })
    (q.state = .done → exec (.envTick u) s = .next (respond q.value [] s)) ∧
    (q.state = .ramp → flt q.value q.target = true →
      (fle q.target up = true → ends { q with value := q.target, state := .done }) ∧
      (fle q.target up = false → ends { q with value := up })) ∧
    (q.state = .ramp → flt q.value q.target = false →
      (fle down q.target = true → ends { q with value := q.target, state := .done }) ∧
      (fle down q.target = false → ends { q with value := down }))

/-- The ADSR setters and keys (spec/43_envelopes.md R340, R348 to R353): rates as for ENV; a sustain level below 0.0 or
above 1.0 is clamped with W_PARAM_RANGE and a NaN level changes nothing else; in DECAY or SUSTAIN a new level is a new
target of DECAY. -/
def Obligations.AdsrSetters : Prop :=
  ∀ (s : State) (u : Nat) (a : Word) (q : Adsr), s.adsr[u]? = some q →
    let x := asF32 a
    let put (r : Adsr) : State := { s with adsr := s.adsr.set u r }
    let rate := if isNaN x then 0#32 else if flt x fZero then fabs x else x
    let rateWarning := if isNaN x || flt x fZero then [Warning.paramRange] else []
    let leveled (v : F32) : State :=
      put (if q.state = .decay ∨ q.state = .sustain then { q with sustain := v, target := v, state := .decay }
        else { q with sustain := v })
    exec (.adsrSetAttack u a) s = .next (respond 0#32 rateWarning (put { q with attack := rate })) ∧
    exec (.adsrSetDecay u a) s = .next (respond 0#32 rateWarning (put { q with decay := rate })) ∧
    exec (.adsrSetRelease u a) s = .next (respond 0#32 rateWarning (put { q with release := rate })) ∧
    (isNaN x = true → exec (.adsrSetSustain u a) s = .next (respond 0#32 [.paramRange] s)) ∧
    (flt x fZero = true → exec (.adsrSetSustain u a) s = .next (respond 0#32 [.paramRange] (leveled 0x00000000#32))) ∧
    (flt fOne x = true → exec (.adsrSetSustain u a) s = .next (respond 0#32 [.paramRange] (leveled 0x3F800000#32))) ∧
    (fle fZero x = true → fle x fOne = true →
      exec (.adsrSetSustain u a) s = .next (respond 0#32 [] (leveled x))) ∧
    exec (.adsrKeyOn u) s = .next (respond 0#32 [] (put { q with target := 0x3F800000#32, state := .attack })) ∧
    exec (.adsrKeyOff u) s = .next (respond 0#32 [] (put { q with target := 0#32, state := .release }))

/-- ADSR.TICK (spec/43_envelopes.md R354), stage by stage. -/
def Obligations.AdsrTick : Prop :=
  ∀ (s : State) (u : Nat) (q : Adsr), s.adsr[u]? = some q →
    let ends (r : Adsr) : Prop := exec (.adsrTick u) s = .next (respond r.value [] { s with adsr := s.adsr.set u r })
    let rise := fadd q.value q.attack
    let fall := fsub q.value q.decay
    let climb := fadd q.value q.decay
    let fade := fsub q.value q.release
    let settled := { q with value := q.sustain, state := .sustain }
    (q.state = .attack ∧ fle fOne rise = true → ends { q with value := fOne, target := q.sustain, state := .decay }) ∧
    (q.state = .attack ∧ fle fOne rise = false → ends { q with value := rise }) ∧
    (q.state = .decay ∧ flt q.sustain q.value = true ∧ fle fall q.sustain = true → ends settled) ∧
    (q.state = .decay ∧ flt q.sustain q.value = true ∧ fle fall q.sustain = false → ends { q with value := fall }) ∧
    (q.state = .decay ∧ flt q.sustain q.value = false ∧ fle q.sustain climb = true → ends settled) ∧
    (q.state = .decay ∧ flt q.sustain q.value = false ∧ fle q.sustain climb = false → ends { q with value := climb }) ∧
    (q.state = .release ∧ fle fade fZero = true → ends { q with value := 0#32, state := .idle }) ∧
    (q.state = .release ∧ fle fade fZero = false → ends { q with value := fade }) ∧
    (q.state = .sustain ∨ q.state = .idle → exec (.adsrTick u) s = .next (respond q.value [] s))

/-! ## Sources -/

/-- The noise commands (spec/44_sources.md R380, R381): seed 0 is replaced by 1 with W_PARAM_RANGE; under XORSHIFT32 the
state takes the three xorshift steps and the sample is its two's-complement reading scaled by 2^-31; under DRAW the
sample is some value in [-1.0, 1.0] and the state is not used. Which value is free, and the counter `drawCount` that
counts the draws is the model's own (log 4, DESIGN CHOICE). -/
def Obligations.NoiseCommands : Prop :=
  ∀ (s : State) (u : Nat) (a : Word) (q : Noise), s.ns[u]? = some q →
    let x1 := q.state ^^^ (q.state <<< 13)
    let x2 := x1 ^^^ (x1 >>> 17)
    let x3 := x2 ^^^ (x2 <<< 5)
    let y := fmul (fOfInt32 x3) 0x30000000#32
    (a ≠ 0#32 → exec (.nsSeed u a) s = .next (respond 0#32 [] { s with ns := s.ns.set u { q with state := a } })) ∧
    exec (.nsSeed u 0#32) s =
      .next (respond 0#32 [.paramRange] { s with ns := s.ns.set u { q with state := 1#32 } }) ∧
    (s.noise = .xorshift32 →
      exec (.nsTick u) s = .next (respond y [] { s with ns := s.ns.set u { state := x3, last := y } })) ∧
    (s.noise = .draw → ∃ z, inUnitRange z = true ∧ exec (.nsTick u) s =
      .next (respond z [] { s with ns := s.ns.set u { q with last := z }, drawCount := s.drawCount + 1 }))

/-- The generator maps no nonzero state to zero, no two states to one, and every sample lies in [-1.0, 1.0]
(spec/44_sources.md R381). -/
def Obligations.NoiseGeneratorIsInvertibleAndBounded : Prop :=
  (∀ x y : Word, xorshift32 x = xorshift32 y → x = y) ∧ (∀ x : Word, x ≠ 0#32 → xorshift32 x ≠ 0#32) ∧
  ∀ x : Word, inUnitRange (noiseSample x) = true

/-- The oscillator setters and table commands (spec/44_sources.md R383, R384, R386, R387). 0x3F000000 is 0.5. -/
def Obligations.OscillatorCommands : Prop :=
  ∀ (s : State) (u k : Nat) (a : Word) (q : Osc), s.osc[u]? = some q →
    let f := asF32 a
    let nyq := fmul s.fs 0x3F000000#32
    let put (r : Osc) : State := { s with osc := s.osc.set u r }
    let at' (g : F32) : State := put { q with freq := g, rate := fdiv (fmul (fOfNat q.len) g) s.fs }
    (isNaN f = true → exec (.oscSetFreq u a) s = .next (respond 0#32 [.paramRange] (at' 0x00000000#32))) ∧
    (flt nyq f = true → exec (.oscSetFreq u a) s = .next (respond 0#32 [.paramRange] (at' nyq))) ∧
    (flt nyq f = false → flt f (fneg nyq) = true →
      exec (.oscSetFreq u a) s = .next (respond 0#32 [.paramRange] (at' (fneg nyq)))) ∧
    (isNaN f = false → flt nyq f = false → flt f (fneg nyq) = false →
      exec (.oscSetFreq u a) s = .next (respond 0#32 [] (at' f))) ∧
    exec (.oscReset u) s = .next (respond 0#32 [] (put { q with phase := 0#32, last := 0#32 })) ∧
    (k < q.len → exec (.oscTblWr u k a) s = .next (respond 0#32 [] (put { q with tbl := memWrite q.tbl k f }))) ∧
    (k < q.len → exec (.oscTblRd u k) s = .next (respond (memRead q.tbl k) [] s))

/-- OSC.TICK (spec/44_sources.md R385): the table read at the phase before the step, with `k` the integer part of the
phase; then the phase moves by RATE, wraps once at T or below 0.0, and is 0.0 where it still is not below T. A phase as
R46 gives it is a legal value. -/
def Obligations.OscillatorTick : Prop :=
  ∀ (s : State) (u : Nat) (q : Osc), s.osc[u]? = some q → fFinite q.phase → 0 ≤ fVal q.phase → fVal q.phase < q.len →
    let k := (⌊fVal q.phase⌋).toNat
    let a := fsub q.phase (fOfNat k)
    let y := fadd (fmul (fsub fOne a) (memRead q.tbl k)) (fmul a (memRead q.tbl ((k + 1) % q.len)))
    let top := fOfNat q.len
    let p := fadd q.phase q.rate
    let wrapped := if fle top p then fsub p top else if flt p fZero then fadd p top else p
    let next := if fle top wrapped then 0#32 else wrapped
    exec (.oscTick u) s = .next (respond y [] { s with osc := s.osc.set u { q with phase := next, last := y } })

/-! ## The voice -/

/-- V.SETFREQ runs the frequency contract and changes nothing else (spec/45_voice.md R425 to R427): `tuned` is FREQ,
BASE_DELAY clamped to [MIN_DELAY, L_0 - 1], the lines by RATIO and, for Brass, LIP0's poles; a frequency that is not above
0.0 falls back to DEFAULT_FREQ with W_FREQ_RANGE, each clamp of a delay raises W_DELAY_RANGE. V.RESET clears the memories
of the bound units, ENV0's value, OSC0's phase, VSTATE, AMP and LAST, reloads the Plucked LOOP_GAIN, and keeps everything
else (R434; `quieted` lists each field). -/
def Obligations.VoiceTuningAndReset : Prop :=
  ∀ (s : State) (a : Word), countsLegal s → s.voice.instr ≠ .none →
    exec (.vSetFreq a) s = .next (respond 0#32 (tuneWarnings s (asF32 a)) (tuned s (asF32 a))) ∧
    exec .vReset s = .next (respond 0#32 [] (quieted s))

/-- V.NOTEON for an instrument other than Plucked (spec/45_voice.md R428): the amplitude clamped to [0, 1], the frequency
contract, ENV0 sent to `fl(EXC_OFFSET + fl(EXC_SCALE × amp))` at ATTACK_RATE without a jump, VSTATE Sounding. -/
def Obligations.VoiceNoteOn : Prop :=
  ∀ (s : State) (f a : Word) (e : Env) (es : List Env),
    countsLegal s → s.voice.instr ≠ .none → s.voice.instr ≠ .plucked → s.env = e :: es →
    let x := asF32 a
    let amp := if isNaN x || flt x fZero then 0x00000000#32 else if flt fOne x then 0x3F800000#32 else x
    let rate := s.voice.attackRate
    let goal := fadd s.voice.excOffset (fmul s.voice.excScale amp)
    let sane := if isNaN rate then 0#32 else if flt rate fZero then fabs rate else rate
    let started : Env :=
      if isNaN goal then { e with rate := sane }
      else { e with rate := sane, target := goal, state := if feq goal e.value then .done else .ramp }
    let t := tuned s (asF32 f)
    exec (.vNoteOn f a) s = .next (respond 0#32
      (warnIf (isNaN x || flt x fZero || flt fOne x) .ampRange ++ tuneWarnings s (asF32 f) ++
        warnIf (isNaN rate || flt rate fZero) .paramRange ++ warnIf (isNaN goal) .paramRange)
      { t with env := started :: es, voice := { t.voice with amp := amp, vstate := .sounding } })

/-- V.NOTEON for Plucked (spec/45_voice.md R428, spec/46_voice_topologies.md R475): the amplitude, the frequency contract,
LOOP_GAIN from LOOP_GAIN_ON, OP1's pole and gain by the amplitude, then L_0 ticks of NS0 through OP1 into DL0. One tick of
the fill is given for both noise models of R381: `noiseAfter` is the xorshift32 tick, or under DRAW the free sample that
`drawCount` picks, and `drawsAfter` counts the draw (log 4). 0x3F7FBE77, 0x3E19999A and 0x3F000000 are 0.999, 0.15 and
0.5. -/
def Obligations.PluckedNoteOn : Prop :=
  (∀ (s : State) (f a : Word) (p0 p1 : OnePole) (ops : List OnePole),
    countsLegal s → s.voice.instr = .plucked → s.op = p0 :: p1 :: ops →
    let x := asF32 a
    let amp := if isNaN x || flt x fZero then 0x00000000#32 else if flt fOne x then 0x3F800000#32 else x
    let pole := fsub 0x3F7FBE77#32 (fmul 0x3E19999A#32 amp)
    let gain := fmul 0x3F000000#32 amp
    let pick : OnePole := { p1 with pole := pole, gain := gain, sgain := fmul gain (fsub fOne (fabs pole)) }
    let t := tuned s (asF32 f)
    let ready : State :=
      { t with op := p0 :: pick :: ops, voice := { t.voice with amp := amp, loopGain := s.voice.loopGainOn } }
    let filled := pluckTick^[(s.dlAt 0).len] ready
    exec (.vNoteOn f a) s = .next (respond 0#32
      (warnIf (isNaN x || flt x fZero || flt fOne x) .ampRange ++ tuneWarnings s (asF32 f))
      { filled with voice := { ready.voice with vstate := .sounding } })) ∧
  ∀ (s : State) (n : Noise) (ns : List Noise) (p0 p1 : OnePole) (ops : List OnePole) (d : DelayLine)
    (ds : List DelayLine), s.ns = n :: ns → s.op = p0 :: p1 :: ops → s.dl = d :: ds →
    let noise := noiseAfter s n
    let pick := opTick p1 noise.last
    pluckTick s =
      { s with ns := noise :: ns, op := p0 :: pick :: ops, dl := dlTick d pick.last :: ds, drawCount := drawsAfter s }

/-- No word of an earlier note survives a pluck (spec/46_voice_topologies.md R475): from two sound states that differ only
in what DL0's buffer and LAST hold, a Plucked V.NOTEON gives the same state, with the pointers of DL0 where V.SETFREQ to
the same frequency puts them. -/
def Obligations.PluckErasesTheEarlierNote : Prop :=
  ∀ (s t : State) (f a : Word) (d e : DelayLine) (ds : List DelayLine),
    s.Sound → t.Sound → s.voice.instr = .plucked → s.dl = d :: ds → e = { d with buf := e.buf, last := e.last } →
    t = { s with dl := e :: ds } →
    exec (.vNoteOn f a) s = exec (.vNoteOn f a) t ∧
    ∀ r g, exec (.vNoteOn f a) s = .next r → exec (.vSetFreq f) s = .next g →
      (r.dlAt 0).wptr = (g.dlAt 0).wptr ∧ (r.dlAt 0).rptr = (g.dlAt 0).rptr ∧ (r.dlAt 0).lag = (g.dlAt 0).lag

/-- V.NOTEOFF (spec/45_voice.md R429): the clamped amplitude scales the release rate of ENV0's ramp to 0.0, or for Plucked
sets LOOP_GAIN to `fl(1.0 - amp)`; a Sounding voice becomes Releasing; AMP is kept. -/
def Obligations.VoiceNoteOff : Prop :=
  ∀ (s : State) (a : Word) (e : Env) (es : List Env), s.voice.instr ≠ .none → s.env = e :: es →
    let x := asF32 a
    let amp := if isNaN x || flt x fZero then 0x00000000#32 else if flt fOne x then 0x3F800000#32 else x
    let ws := warnIf (isNaN x || flt x fZero || flt fOne x) .ampRange
    let state : VoiceState := if s.voice.vstate = .sounding then .releasing else s.voice.vstate
    let rate := fmul s.voice.releaseScale amp
    let sane := if isNaN rate then 0#32 else if flt rate fZero then fabs rate else rate
    (s.voice.instr = .plucked → exec (.vNoteOff a) s = .next (respond 0#32 ws
      { s with voice := { s.voice with loopGain := fsub fOne amp, vstate := state } })) ∧
    (s.voice.instr ≠ .plucked → exec (.vNoteOff a) s =
      .next (respond 0#32 (ws ++ warnIf (isNaN rate || flt rate fZero) .paramRange)
        { s with voice := { s.voice with vstate := state },
                 env := { e with rate := sane, target := 0x00000000#32,
                                 state := if feq 0x00000000#32 e.value then .done else .ramp } :: es }))

/-- V.TICK with the Bowed loop body (spec/46_voice_topologies.md R470, spec/45_voice.md R430, R431, R439). The unit
functions are what the TICK commands of the units do to them; the vibrato moves DL0's delay where VIB_GAIN is above 0.0.
Under DRAW the noise sample is the free value that `drawCount` picks, and the draw is counted (`noiseAfter`, `drawsAfter`;
the model's form of it, log 4). -/
def Obligations.BowedVoiceTick : Prop :=
  ∀ (s : State) (d0 d1 : DelayLine) (dls : List DelayLine) (p0 : OnePole) (ops : List OnePole) (b0 : Biquad)
    (bqs : List Biquad) (w0 : Bow) (bows : List Bow) (e0 : Env) (envs : List Env) (n0 : Noise) (nss : List Noise)
    (o0 : Osc) (oscs : List Osc),
    s.voice.instr = .bowed → s.dl = d0 :: d1 :: dls → s.op = p0 :: ops → s.bq = b0 :: bqs → s.bow = w0 :: bows →
    s.env = e0 :: envs → s.ns = n0 :: nss → s.osc = o0 :: oscs →
    let v := s.voice
    let e := envTick e0
    let o := oscTick o0
    let loss := opTick p0 d1.last
    let bridge := fneg loss.last
    let nut := fneg d0.last
    let dv := fsub e.value (fadd bridge nut)
    let bow := bowTick w0 dv
    let nv := fmul dv bow.last
    let string0 := dlTick d0 (fadd bridge nv)
    let string1 := dlTick d1 (fadd nut nv)
    let lag := fadd (fmul v.baseDelay (fsub fOne v.ratio)) (fmul (fmul v.baseDelay v.vibGain) o.last)
    let body := bqTick b0 string1.last
    let y := fmul v.outGain body.last
    exec .vTick s = .next (respond y (warnIf (flt fZero v.vibGain && dlLagOut d0.len lag) .delayRange)
      { s with env := e :: envs, ns := noiseAfter s n0 :: nss, osc := o :: oscs, op := loss :: ops, bow := bow :: bows,
               dl := (if flt fZero v.vibGain then dlSetDelay string0 lag else string0) :: string1 :: dls,
               bq := body :: bqs, drawCount := drawsAfter s, tickCount := s.tickCount + 1#32,
               voice := { v with last := y, vstate := vstateAfter s e } })

/-- V.TICK with the Clarinet, Flute and Brass loop bodies (spec/46_voice_topologies.md R471 to R473, spec/45_voice.md R430,
R431, R439). Under DRAW the noise sample is the free value that `drawCount` picks, and the draw is counted (`noiseAfter`,
`drawsAfter`; the model's form of it, log 4). -/
def Obligations.WindVoiceTick : Prop :=
  ∀ (s : State) (d0 d1 : DelayLine) (dls : List DelayLine) (p0 : OnePole) (ops : List OnePole) (z0 : OneZero)
    (ozs : List OneZero) (c0 : PoleZero) (pzs : List PoleZero) (r0 : Reed) (reeds : List Reed) (j0 : Jet)
    (jets : List Jet) (l0 : Lip) (lips : List Lip) (e0 : Env) (envs : List Env) (n0 : Noise) (nss : List Noise)
    (o0 : Osc) (oscs : List Osc),
    s.dl = d0 :: d1 :: dls → s.op = p0 :: ops → s.oz = z0 :: ozs → s.pz = c0 :: pzs → s.reed = r0 :: reeds →
    s.jet = j0 :: jets → s.lip = l0 :: lips → s.env = e0 :: envs → s.ns = n0 :: nss → s.osc = o0 :: oscs →
    let v := s.voice
    let e := envTick e0
    let n := noiseAfter s n0
    let o := oscTick o0
    let p := fadd e.value (fmul e.value (fadd (fmul v.noiseGain n.last) (fmul v.vibGain o.last)))
    let ticked (y : F32) (t : State) : Host.Outcome State Fault Refusal :=
      .next (respond y [] { t with env := e :: envs, ns := n :: nss, osc := o :: oscs, drawCount := drawsAfter s,
                                   tickCount := s.tickCount + 1#32,
                                   voice := { v with last := y, vstate := vstateAfter s e } })
    (v.instr = .clarinet →
      let loss := ozTick z0 d0.last
      let pd := fsub (fneg loss.last) p
      let reed := reedTick r0 pd
      let bore := dlTick d0 (fadd p (fmul pd reed.last))
      exec .vTick s = ticked (fmul v.outGain bore.last)
        { s with oz := loss :: ozs, reed := reed :: reeds, dl := bore :: d1 :: dls }) ∧
    (v.instr = .flute →
      let loss := opTick p0 d0.last
      let block := pzTick c0 loss.last
      let line := dlTick d1 (fsub p (fmul v.reflA block.last))
      let jet := jetTick j0 line.last
      let bore := dlTick d0 (fadd jet.last (fmul v.reflB block.last))
      exec .vTick s = ticked (fmul v.outGain bore.last)
        { s with op := loss :: ops, pz := block :: pzs, jet := jet :: jets, dl := bore :: line :: dls }) ∧
    (v.instr = .brass →
      let lip := lipTick l0 p (fmul v.reflA d0.last)
      let bore := dlTick d0 lip.last
      let block := pzTick c0 bore.last
      exec .vTick s = ticked (fmul v.outGain block.last)
        { s with lip := lip :: lips, pz := block :: pzs, dl := bore :: d1 :: dls })

/-- V.TICK with the Plucked loop body (spec/46_voice_topologies.md R474, spec/45_voice.md R430, R439): no excitation unit
is ticked and VSTATE is kept. -/
def Obligations.PluckedVoiceTick : Prop :=
  ∀ (s : State) (d0 : DelayLine) (dls : List DelayLine) (z0 : OneZero) (ozs : List OneZero),
    s.voice.instr = .plucked → s.dl = d0 :: dls → s.oz = z0 :: ozs →
    let loss := ozTick z0 (fmul s.voice.loopGain d0.last)
    let string := dlTick d0 loss.last
    let y := fmul s.voice.outGain string.last
    exec .vTick s = .next (respond y []
      { s with oz := loss :: ozs, dl := string :: dls, tickCount := s.tickCount + 1#32,
               voice := { s.voice with last := y } })

/-- V.CC and the controller map (spec/45_voice.md R432, R433): the value clamped to [0, 1] with W_CTRL_RANGE, then the
action of the pair; every pair not listed raises W_CTRL_UNKNOWN and changes nothing else. The words are 0.4, 0.5, 5.0,
4.0, -0.44, 0.26, 0.027236, 0.2 and 12.0. -/
def Obligations.ControllerMap : Prop :=
  ∀ (s : State) (num : Nat) (a : Word), countsLegal s → s.voice.instr ≠ .none →
    let i := s.voice.instr
    let raw := asF32 a
    let x := if isNaN raw || flt raw fZero then 0x00000000#32 else if flt fOne raw then 0x3F800000#32 else raw
    let ws := warnIf (isNaN raw || flt raw fZero || flt fOne raw) .ctrlRange
    let depth := if i = .clarinet then 0x3F000000#32 else 0x3ECCCCCD#32
    let moved : State :=
      { s with voice := { s.voice with ratio := fadd 0x3CDF1E08#32 (fmul 0x3E4CCCCD#32 x) } }
    (num = 1 → i ≠ .plucked → exec (.vCc num a) s =
      .next (respond 0#32 ws { s with voice := { s.voice with vibGain := fmul depth x } })) ∧
    (num = 2 → i = .bowed → exec (.vCc num a) s = .next (respond 0#32 ws
      { s with bow := s.bow.set 0 { s.bowAt 0 with slope := fsub 0x40A00000#32 (fmul 0x40800000#32 x) } })) ∧
    (num = 2 → i = .clarinet → exec (.vCc num a) s = .next (respond 0#32 ws
      { s with reed := s.reed.set 0 { s.reedAt 0 with slope := fadd 0xBEE147AE#32 (fmul 0x3E851EB8#32 x) } })) ∧
    (num = 4 → i = .bowed → exec (.vCc num a) s =
      .next (respond 0#32 (ws ++ distributeWarnings moved s.voice.baseDelay)
        { moved with dl := distributedLines moved s.voice.baseDelay })) ∧
    (num = 4 → i = .clarinet ∨ i = .flute → exec (.vCc num a) s =
      .next (respond 0#32 ws { s with voice := { s.voice with noiseGain := fmul 0x3ECCCCCD#32 x } })) ∧
    (num = 11 → i ≠ .plucked → exec (.vCc num a) s =
      .next (respond 0#32 (ws ++ warnIf (oscFreqOut s.fs (fmul 0x41400000#32 x)) .paramRange)
        { s with osc := s.osc.set 0 (oscSetFreq s.fs (s.oscAt 0) (fmul 0x41400000#32 x)) })) ∧
    (num ∉ [1, 2, 4, 11] ∨ i = .plucked ∨ (num = 2 ∧ i ≠ .bowed ∧ i ≠ .clarinet) ∨ (num = 4 ∧ i = .brass) →
      exec (.vCc num a) s = .next (respond 0#32 [.ctrlUnknown] s))

/-- V.SETINSTR (spec/45_voice.md R423, R424): the parameter registers 8 to 23 take the column of the instrument, in the
order of the table, the bound units take their configuration, then the voice is reset (`quieted`) and tuned to
DEFAULT_FREQ, 220.0 (0x435C0000). Every word is the binary32 value nearest to the decimal of R424. -/
def Obligations.InstrumentSelection : Prop :=
  ∀ (s : State) (v : Voice), countsLegal s → v.vstate = s.voice.vstate →
    [v.freq, v.amp, v.baseDelay, v.last] = [s.voice.freq, s.voice.amp, s.voice.baseDelay, s.voice.last] →
    let params := [v.comp, v.ratio, v.minDelay, v.defaultFreq, v.outGain, v.excOffset, v.excScale, v.attackRate,
      v.releaseScale, v.noiseGain, v.vibGain, v.reflA, v.reflB, v.loopGain, v.loopGainOn, v.lipReson]
    let selected (k : Nat) (rate : List F32) (t : State) : Prop :=
      exec (.vSetInstr k) s = .next (respond 0#32
        ((rate.map (fun f => warnIf (oscFreqOut s.fs f) .paramRange)).flatten ++
          tuneWarnings (quieted t) 0x435C0000#32) (tuned (quieted t) 0x435C0000#32))
    let vibrato (f : F32) : List Osc := s.osc.set 0 (oscSetFreq s.fs (s.oscAt 0) f)
    let onePole (g p : F32) : OnePole :=
      { s.opAt 0 with gain := g, pole := p, sgain := fmul g (fsub fOne (fabs p)) }
    let average (g : F32) : OneZero :=
      { s.ozAt 0 with gain := g, zero := 0xBF800000#32, b0 := fdiv g 0x40000000#32,
                      b1 := fdiv g 0x40000000#32 }
    let blocker : PoleZero := { s.pzAt 0 with b0 := 0x3F800000#32, b1 := 0xBF800000#32, a1 := 0x3F7D70A4#32 }
    (v.instr = .bowed → params = [0x40800000#32, 0x3E024A27#32, 0x3F800000#32, 0x435C0000#32, 0x3F800000#32, 0x3CF5C28F#32,
        0x3E4CCCCD#32, 0x3A83126F#32, 0x3C23D70A#32, 0, 0, 0, 0, 0, 0, 0] →
      selected 0 [0x40C41245#32]
        { s with voice := v, op := s.op.set 0 (onePole 0x3F733333#32 0x3F0CCCCD#32),
                 bq := s.bq.set 0
                   { bqSetFreqReson s.cosine s.fs (s.bqAt 0) 0x43FA0000#32 0x3F59999A#32 with
                     b0 := 0x3E4CCCCD#32, b1 := 0#32, b2 := 0xBE4CCCCD#32 },
                 bow := s.bow.set 0 { s.bowAt 0 with offset := 0#32, slope := 0x40400000#32 },
                 osc := vibrato 0x40C41245#32 }) ∧
    (v.instr = .clarinet → params = [0x40400000#32, 0x3F000000#32, 0x3F800000#32, 0x435C0000#32, 0x3F800000#32,
        0x3F0CCCCD#32, 0x3E99999A#32, 0x3BA3D70A#32, 0x3C23D70A#32, 0x3E4CCCCD#32, 0x3DCCCCCD#32, 0, 0, 0, 0, 0] →
      selected 1 [0x40B7851F#32]
        { s with voice := v, oz := s.oz.set 0 (average 0x3F733333#32),
                 reed := s.reed.set 0 { s.reedAt 0 with offset := 0x3F333333#32, slope := 0xBE99999A#32 },
                 osc := vibrato 0x40B7851F#32 }) ∧
    (v.instr = .flute → params = [0x40000000#32, 0x3EA3D70A#32, 0x3F800000#32, 0x435C0000#32, 0x3E99999A#32, 0x3F8CCCCD#32,
        0x3E4CCCCD#32, 0x3BA3D70A#32, 0x3C23D70A#32, 0x3E19999A#32, 0x3D4CCCCD#32, 0x3F000000#32, 0x3F000000#32, 0, 0,
        0] →
      selected 2 [0x40BD999A#32]
        { s with voice := v, op := s.op.set 0 (onePole 0xBF800000#32 0x3F266666#32), pz := s.pz.set 0 blocker,
                 osc := vibrato 0x40BD999A#32 }) ∧
    (v.instr = .brass → params = [0, 0x3F800000#32, 0x3F800000#32, 0x435C0000#32, 0x3F800000#32, 0, 0x3E99999A#32,
        0x3BA3D70A#32, 0x3C23D70A#32, 0, 0, 0x3F59999A#32, 0, 0, 0, 0x3F7F3B64#32] →
      selected 3 [0x40C4624E#32]
        { s with voice := v,
                 lip := s.lip.set 0 { s.lipAt 0 with filter :=
                   { (s.lipAt 0).filter with b0 := 0x3DCCCCCD#32, b1 := 0#32, b2 := 0xBDCCCCCD#32 } },
                 pz := s.pz.set 0 blocker, osc := vibrato 0x40C4624E#32 }) ∧
    (v.instr = .plucked → params = [0x3F000000#32, 0x3F800000#32, 0x3F800000#32, 0x435C0000#32, 0x3F800000#32, 0, 0, 0, 0,
        0, 0, 0, 0, 0x3F7EF9DB#32, 0x3F7EF9DB#32, 0] →
      selected 4 [] { s with voice := v, oz := s.oz.set 0 (average 0x3F800000#32) })

/-- The voice registers by index: V.RDREG answers the listed word, V.WRREG writes one parameter register and nothing else,
both also without an instrument; V.LASTOUT answers LAST (spec/45_voice.md R435 to R437, spec/10_state.md R48, R49). -/
def Obligations.VoiceRegisters : Prop :=
  ∀ (s : State) (k : Nat) (a w : Word),
    let v := s.voice
    let status := [
      match v.instr with
        | .bowed => 0#32 | .clarinet => 1#32 | .flute => 2#32 | .brass => 3#32 | .plucked => 4#32 | .none => 15#32,
      match v.vstate with | .idle => 0#32 | .sounding => 1#32 | .releasing => 2#32,
      v.freq, v.amp, v.baseDelay, v.last]
    let params := [v.comp, v.ratio, v.minDelay, v.defaultFreq, v.outGain, v.excOffset, v.excScale, v.attackRate,
      v.releaseScale, v.noiseGain, v.vibGain, v.reflA, v.reflB, v.loopGain, v.loopGainOn, v.lipReson]
    (status[k]? = some w → exec (.vRdReg k) s = .next (respond w [] s)) ∧
    (params[k]? = some w → exec (.vRdReg (8 + k)) s = .next (respond w [] s)) ∧
    (k < 16 → ∃ u : Voice, u.instr = v.instr ∧ u.vstate = v.vstate ∧ u.floats = v.floats.set (4 + k) (asF32 a) ∧
      exec (.vWrReg (8 + k) a) s = .next (respond 0#32 [] { s with voice := u })) ∧
    (v.instr ≠ .none → exec .vLastOut s = .next (respond v.last [] s))

/-! ## Arithmetic -/

/-- Every sum, difference, product and quotient of finite values is the exact result rounded once to nearest, ties to
even, with subnormals kept and overflow to infinity (spec/00_scope.md R18). -/
def Obligations.ArithmeticIsCorrectlyRounded : Prop :=
  ∀ x y : F32, fFinite x → fFinite y →
    Rounded (fVal x + fVal y) (fadd x y) ∧ Rounded (fVal x - fVal y) (fsub x y) ∧
    Rounded (fVal x * fVal y) (fmul x y) ∧ (fVal y ≠ 0 → Rounded (fVal x / fVal y) (fdiv x y))

/-- An infinite operand, a zero divisor and the sign of a zero, as IEEE 754 gives them (spec/00_scope.md R18): an infinity
swallows a finite summand; a product with an infinity and a nonzero factor, an infinity over a finite value and a nonzero
value over a zero are infinities, and a finite value over an infinity is a zero, with the sign that the operands' signs
give; an exact sum or difference of zero is +0.0 but for two negative zeros; the sign of every finite product and quotient,
a zero among them, is that of the operands' signs. -/
def Obligations.InfinitiesAndZeros : Prop :=
  ∀ x y : F32,
    let differ := fNeg? x != fNeg? y
    let infinity : F32 := if differ then 0xFF800000#32 else 0x7F800000#32
    let zero : F32 := if differ then 0x80000000#32 else 0x00000000#32
    (isInf x = true → fFinite y →
      fadd x y = x ∧ fadd y x = x ∧ fsub x y = x ∧ fsub y x = fneg x ∧
      fdiv x y = infinity ∧ fdiv y x = zero ∧ (fVal y ≠ 0 → fmul x y = infinity ∧ fmul y x = infinity)) ∧
    (isInf x = true → isInf y = true →
      fmul x y = infinity ∧ (differ = false → fadd x y = x) ∧ (differ = true → fsub x y = x)) ∧
    (fFinite x → fFinite y →
      (fVal x ≠ 0 → fVal y = 0 → fdiv x y = infinity) ∧
      (fVal x + fVal y = 0 → fadd x y = if fNeg? x = true ∧ fNeg? y = true then 0x80000000#32 else 0x00000000#32) ∧
      (fVal x - fVal y = 0 → fsub x y = if fNeg? x = true ∧ fNeg? y = false then 0x80000000#32 else 0x00000000#32) ∧
      fNeg? (fmul x y) = differ ∧ (fVal y ≠ 0 → fNeg? (fdiv x y) = differ))

/-- NaN and the comparisons (spec/00_scope.md R19): an operation on a NaN answers 0x7FC00000, and so does every invalid
operation (a sum of unlike or a difference of like infinities, a zero times an infinity in either order, a zero over a
zero, an infinity over an infinity, each for all signs); a comparison with a NaN is false; on finite values the
comparisons are those of the numbers; negative infinity lies below and positive infinity above every other value; a clamp
passes NaN (R20). -/
def Obligations.NaNsAndComparisons : Prop :=
  ∀ x y z : F32,
    (isNaN x = true ∨ isNaN y = true →
      fadd x y = 0x7FC00000#32 ∧ fsub x y = 0x7FC00000#32 ∧ fmul x y = 0x7FC00000#32 ∧ fdiv x y = 0x7FC00000#32 ∧
      flt x y = false ∧ fle x y = false ∧ feq x y = false) ∧
    (isInf x = true → isInf y = true →
      fdiv x y = 0x7FC00000#32 ∧ (fNeg? x ≠ fNeg? y → fadd x y = 0x7FC00000#32) ∧
      (fNeg? x = fNeg? y → fsub x y = 0x7FC00000#32)) ∧
    (fFinite x → fVal x = 0 →
      (isInf y = true → fmul x y = 0x7FC00000#32 ∧ fmul y x = 0x7FC00000#32) ∧
      (fFinite y → fVal y = 0 → fdiv x y = 0x7FC00000#32)) ∧
    (fFinite x → fFinite y →
      (flt x y = true ↔ fVal x < fVal y) ∧ (fle x y = true ↔ fVal x ≤ fVal y) ∧ (feq x y = true ↔ fVal x = fVal y)) ∧
    (isNaN x = false →
      (flt 0xFF800000#32 x = true ↔ x ≠ 0xFF800000#32) ∧ flt x 0xFF800000#32 = false ∧ fle 0xFF800000#32 x = true ∧
      (fle x 0xFF800000#32 = true ↔ x = 0xFF800000#32) ∧
      (flt x 0x7F800000#32 = true ↔ x ≠ 0x7F800000#32) ∧ flt 0x7F800000#32 x = false ∧ fle x 0x7F800000#32 = true ∧
      (fle 0x7F800000#32 x = true ↔ x = 0x7F800000#32) ∧
      (isInf y = true → (feq x y = true ↔ x = y) ∧ (feq y x = true ↔ x = y))) ∧
    (isNaN x = true → fclamp x y z = x)
end

