-- ==== Sys2Proof/Laws/Decode.lean ====
section
/-! SUPPORT. The fields of a command word read back, and the row of each opcode, so that no proof searches the opcode map
(spec/30_encoding.md R141, R149). -/

namespace Sys2Proof

theorem toNat_cmdWord (op : BitVec 8) (unit imm : Nat) :
    (cmdWord op unit imm).toNat = op.toNat * 16777216 + unit % 256 * 65536 + imm % 65536 := by
  have h : (cmdWord op unit imm).toNat =
      ((op.toNat <<< 8 ||| unit % 256) <<< 16) ||| imm % 65536 := by
    show (op ++ BitVec.ofNat 8 unit ++ BitVec.ofNat 16 imm).toNat = _
    simp only [BitVec.toNat_append, BitVec.toNat_ofNat]
  have h1 : unit % 256 < 2 ^ 8 := Nat.mod_lt _ (by norm_num)
  have h2 : imm % 65536 < 2 ^ 16 := Nat.mod_lt _ (by norm_num)
  rw [h, ← Nat.shiftLeft_add_eq_or_of_lt h1, ← Nat.shiftLeft_add_eq_or_of_lt h2]
  simp only [Nat.shiftLeft_eq]
  omega

theorem cmdOp_cmdWord (op : BitVec 8) (unit imm : Nat) : cmdOp (cmdWord op unit imm) = op := by
  apply BitVec.eq_of_toNat_eq
  have := op.isLt
  simp only [cmdOp, BitVec.extractLsb'_toNat, toNat_cmdWord, Nat.shiftRight_eq_div_pow]
  omega

theorem cmdUnit_cmdWord (op : BitVec 8) (unit imm : Nat) : cmdUnit (cmdWord op unit imm) = unit % 256 := by
  simp only [cmdUnit, BitVec.extractLsb'_toNat, toNat_cmdWord, Nat.shiftRight_eq_div_pow]
  omega

theorem cmdImm_cmdWord (op : BitVec 8) (unit imm : Nat) : cmdImm (cmdWord op unit imm) = imm % 65536 := by
  simp only [cmdImm, BitVec.extractLsb'_toNat, toNat_cmdWord, Nat.shiftRight_eq_div_pow]
  omega

theorem opRow_sysNop :
    opRow 0x00#8 = some ⟨0x00#8, "SYS.NOP", .zero, .zero, fun _ _ _ _ => .sysNop⟩ := rfl
theorem opRow_sysReset :
    opRow 0x01#8 = some ⟨0x01#8, "SYS.RESET", .zero, .zero, fun _ _ _ _ => .sysReset⟩ := rfl
theorem opRow_sysRdReg :
    opRow 0x0E#8 = some ⟨0x0E#8, "SYS.RDREG", .zero, .used, fun _ k _ _ => .sysRdReg k⟩ := rfl
theorem opRow_sysWrReg :
    opRow 0x0F#8 = some ⟨0x0F#8, "SYS.WRREG", .zero, .used, fun _ k a _ => .sysWrReg k a⟩ := rfl
theorem opRow_dlSetDelay :
    opRow 0x10#8 = some ⟨0x10#8, "DL.SETDELAY", .selects, .zero, fun u _ a _ => .dlSetDelay u a⟩ := rfl
theorem opRow_dlTick :
    opRow 0x11#8 = some ⟨0x11#8, "DL.TICK", .selects, .zero, fun u _ a _ => .dlTick u a⟩ := rfl
theorem opRow_dlLastOut :
    opRow 0x12#8 = some ⟨0x12#8, "DL.LASTOUT", .selects, .zero, fun u _ _ _ => .dlLastOut u⟩ := rfl
theorem opRow_dlClear :
    opRow 0x13#8 = some ⟨0x13#8, "DL.CLEAR", .selects, .zero, fun u _ _ _ => .dlClear u⟩ := rfl
theorem opRow_dlBufRd :
    opRow 0x14#8 = some ⟨0x14#8, "DL.BUFRD", .selects, .zero, fun u _ a _ => .dlBufRd u a⟩ := rfl
theorem opRow_dlRdReg :
    opRow 0x1E#8 = some ⟨0x1E#8, "DL.RDREG", .selects, .used, fun u k _ _ => .dlRdReg u k⟩ := rfl
theorem opRow_opSetPole :
    opRow 0x20#8 = some ⟨0x20#8, "OP.SETPOLE", .selects, .zero, fun u _ a _ => .opSetPole u a⟩ := rfl
theorem opRow_opSetGain :
    opRow 0x21#8 = some ⟨0x21#8, "OP.SETGAIN", .selects, .zero, fun u _ a _ => .opSetGain u a⟩ := rfl
theorem opRow_opTick :
    opRow 0x22#8 = some ⟨0x22#8, "OP.TICK", .selects, .zero, fun u _ a _ => .opTick u a⟩ := rfl
theorem opRow_opClear :
    opRow 0x23#8 = some ⟨0x23#8, "OP.CLEAR", .selects, .zero, fun u _ _ _ => .opClear u⟩ := rfl
theorem opRow_opLastOut :
    opRow 0x24#8 = some ⟨0x24#8, "OP.LASTOUT", .selects, .zero, fun u _ _ _ => .opLastOut u⟩ := rfl
theorem opRow_opRdReg :
    opRow 0x2E#8 = some ⟨0x2E#8, "OP.RDREG", .selects, .used, fun u k _ _ => .opRdReg u k⟩ := rfl
theorem opRow_ozSetZero :
    opRow 0x30#8 = some ⟨0x30#8, "OZ.SETZERO", .selects, .zero, fun u _ a _ => .ozSetZero u a⟩ := rfl
theorem opRow_ozSetGain :
    opRow 0x31#8 = some ⟨0x31#8, "OZ.SETGAIN", .selects, .zero, fun u _ a _ => .ozSetGain u a⟩ := rfl
theorem opRow_ozTick :
    opRow 0x32#8 = some ⟨0x32#8, "OZ.TICK", .selects, .zero, fun u _ a _ => .ozTick u a⟩ := rfl
theorem opRow_ozClear :
    opRow 0x33#8 = some ⟨0x33#8, "OZ.CLEAR", .selects, .zero, fun u _ _ _ => .ozClear u⟩ := rfl
theorem opRow_ozLastOut :
    opRow 0x34#8 = some ⟨0x34#8, "OZ.LASTOUT", .selects, .zero, fun u _ _ _ => .ozLastOut u⟩ := rfl
theorem opRow_ozRdReg :
    opRow 0x3E#8 = some ⟨0x3E#8, "OZ.RDREG", .selects, .used, fun u k _ _ => .ozRdReg u k⟩ := rfl
theorem opRow_pzSetA1 :
    opRow 0x40#8 = some ⟨0x40#8, "PZ.SETA1", .selects, .zero, fun u _ a _ => .pzSetA1 u a⟩ := rfl
theorem opRow_pzSetB0 :
    opRow 0x41#8 = some ⟨0x41#8, "PZ.SETB0", .selects, .zero, fun u _ a _ => .pzSetB0 u a⟩ := rfl
theorem opRow_pzSetB1 :
    opRow 0x42#8 = some ⟨0x42#8, "PZ.SETB1", .selects, .zero, fun u _ a _ => .pzSetB1 u a⟩ := rfl
theorem opRow_pzSetBlockZero :
    opRow 0x43#8 = some ⟨0x43#8, "PZ.SETBLOCKZERO", .selects, .zero, fun u _ a _ => .pzSetBlockZero u a⟩ := rfl
theorem opRow_pzTick :
    opRow 0x44#8 = some ⟨0x44#8, "PZ.TICK", .selects, .zero, fun u _ a _ => .pzTick u a⟩ := rfl
theorem opRow_pzClear :
    opRow 0x45#8 = some ⟨0x45#8, "PZ.CLEAR", .selects, .zero, fun u _ _ _ => .pzClear u⟩ := rfl
theorem opRow_pzLastOut :
    opRow 0x46#8 = some ⟨0x46#8, "PZ.LASTOUT", .selects, .zero, fun u _ _ _ => .pzLastOut u⟩ := rfl
theorem opRow_pzRdReg :
    opRow 0x4E#8 = some ⟨0x4E#8, "PZ.RDREG", .selects, .used, fun u k _ _ => .pzRdReg u k⟩ := rfl
theorem opRow_bqSetFreqReson :
    opRow 0x50#8 = some ⟨0x50#8, "BQ.SETFREQRESON", .selects, .zero, fun u _ a b => .bqSetFreqReson u a b⟩ := rfl
theorem opRow_bqSetEqualGainZeroes :
    opRow 0x51#8 = some ⟨0x51#8, "BQ.SETEQUALGAINZEROES", .selects, .zero, fun u _ _ _ => .bqSetEqualGainZeroes u⟩ := rfl
theorem opRow_bqTick :
    opRow 0x52#8 = some ⟨0x52#8, "BQ.TICK", .selects, .zero, fun u _ a _ => .bqTick u a⟩ := rfl
theorem opRow_bqClear :
    opRow 0x53#8 = some ⟨0x53#8, "BQ.CLEAR", .selects, .zero, fun u _ _ _ => .bqClear u⟩ := rfl
theorem opRow_bqLastOut :
    opRow 0x54#8 = some ⟨0x54#8, "BQ.LASTOUT", .selects, .zero, fun u _ _ _ => .bqLastOut u⟩ := rfl
theorem opRow_bqSetCoef :
    opRow 0x55#8 = some ⟨0x55#8, "BQ.SETCOEF", .selects, .used, fun u k a _ => .bqSetCoef u k a⟩ := rfl
theorem opRow_bqRdReg :
    opRow 0x5E#8 = some ⟨0x5E#8, "BQ.RDREG", .selects, .used, fun u k _ _ => .bqRdReg u k⟩ := rfl
theorem opRow_bowSetOffset :
    opRow 0x60#8 = some ⟨0x60#8, "BOW.SETOFFSET", .selects, .zero, fun u _ a _ => .bowSetOffset u a⟩ := rfl
theorem opRow_bowSetSlope :
    opRow 0x61#8 = some ⟨0x61#8, "BOW.SETSLOPE", .selects, .zero, fun u _ a _ => .bowSetSlope u a⟩ := rfl
theorem opRow_bowTick :
    opRow 0x62#8 = some ⟨0x62#8, "BOW.TICK", .selects, .zero, fun u _ a _ => .bowTick u a⟩ := rfl
theorem opRow_bowRdReg :
    opRow 0x6E#8 = some ⟨0x6E#8, "BOW.RDREG", .selects, .used, fun u k _ _ => .bowRdReg u k⟩ := rfl
theorem opRow_reedSetOffset :
    opRow 0x70#8 = some ⟨0x70#8, "REED.SETOFFSET", .selects, .zero, fun u _ a _ => .reedSetOffset u a⟩ := rfl
theorem opRow_reedSetSlope :
    opRow 0x71#8 = some ⟨0x71#8, "REED.SETSLOPE", .selects, .zero, fun u _ a _ => .reedSetSlope u a⟩ := rfl
theorem opRow_reedTick :
    opRow 0x72#8 = some ⟨0x72#8, "REED.TICK", .selects, .zero, fun u _ a _ => .reedTick u a⟩ := rfl
theorem opRow_reedRdReg :
    opRow 0x7E#8 = some ⟨0x7E#8, "REED.RDREG", .selects, .used, fun u k _ _ => .reedRdReg u k⟩ := rfl
theorem opRow_jetTick :
    opRow 0x82#8 = some ⟨0x82#8, "JET.TICK", .selects, .zero, fun u _ a _ => .jetTick u a⟩ := rfl
theorem opRow_jetRdReg :
    opRow 0x8E#8 = some ⟨0x8E#8, "JET.RDREG", .selects, .used, fun u k _ _ => .jetRdReg u k⟩ := rfl
theorem opRow_lipSetFreqReson :
    opRow 0x90#8 = some ⟨0x90#8, "LIP.SETFREQRESON", .selects, .zero, fun u _ a b => .lipSetFreqReson u a b⟩ := rfl
theorem opRow_lipSetEqualGainZeroes :
    opRow 0x91#8 = some ⟨0x91#8, "LIP.SETEQUALGAINZEROES", .selects, .zero, fun u _ _ _ => .lipSetEqualGainZeroes u⟩ := rfl
theorem opRow_lipTick :
    opRow 0x92#8 = some ⟨0x92#8, "LIP.TICK", .selects, .zero, fun u _ a b => .lipTick u a b⟩ := rfl
theorem opRow_lipClear :
    opRow 0x93#8 = some ⟨0x93#8, "LIP.CLEAR", .selects, .zero, fun u _ _ _ => .lipClear u⟩ := rfl
theorem opRow_lipLastOut :
    opRow 0x94#8 = some ⟨0x94#8, "LIP.LASTOUT", .selects, .zero, fun u _ _ _ => .lipLastOut u⟩ := rfl
theorem opRow_lipSetCoef :
    opRow 0x95#8 = some ⟨0x95#8, "LIP.SETCOEF", .selects, .used, fun u k a _ => .lipSetCoef u k a⟩ := rfl
theorem opRow_lipRdReg :
    opRow 0x9E#8 = some ⟨0x9E#8, "LIP.RDREG", .selects, .used, fun u k _ _ => .lipRdReg u k⟩ := rfl
theorem opRow_envSetRate :
    opRow 0xA0#8 = some ⟨0xA0#8, "ENV.SETRATE", .selects, .zero, fun u _ a _ => .envSetRate u a⟩ := rfl
theorem opRow_envSetTarget :
    opRow 0xA1#8 = some ⟨0xA1#8, "ENV.SETTARGET", .selects, .zero, fun u _ a _ => .envSetTarget u a⟩ := rfl
theorem opRow_envSetValue :
    opRow 0xA2#8 = some ⟨0xA2#8, "ENV.SETVALUE", .selects, .zero, fun u _ a _ => .envSetValue u a⟩ := rfl
theorem opRow_envKeyOn :
    opRow 0xA3#8 = some ⟨0xA3#8, "ENV.KEYON", .selects, .zero, fun u _ _ _ => .envKeyOn u⟩ := rfl
theorem opRow_envKeyOff :
    opRow 0xA4#8 = some ⟨0xA4#8, "ENV.KEYOFF", .selects, .zero, fun u _ _ _ => .envKeyOff u⟩ := rfl
theorem opRow_envTick :
    opRow 0xA5#8 = some ⟨0xA5#8, "ENV.TICK", .selects, .zero, fun u _ _ _ => .envTick u⟩ := rfl
theorem opRow_envRdReg :
    opRow 0xAE#8 = some ⟨0xAE#8, "ENV.RDREG", .selects, .used, fun u k _ _ => .envRdReg u k⟩ := rfl
theorem opRow_adsrSetAttack :
    opRow 0xB0#8 = some ⟨0xB0#8, "ADSR.SETATTACK", .selects, .zero, fun u _ a _ => .adsrSetAttack u a⟩ := rfl
theorem opRow_adsrSetDecay :
    opRow 0xB1#8 = some ⟨0xB1#8, "ADSR.SETDECAY", .selects, .zero, fun u _ a _ => .adsrSetDecay u a⟩ := rfl
theorem opRow_adsrSetSustain :
    opRow 0xB2#8 = some ⟨0xB2#8, "ADSR.SETSUSTAIN", .selects, .zero, fun u _ a _ => .adsrSetSustain u a⟩ := rfl
theorem opRow_adsrSetRelease :
    opRow 0xB3#8 = some ⟨0xB3#8, "ADSR.SETRELEASE", .selects, .zero, fun u _ a _ => .adsrSetRelease u a⟩ := rfl
theorem opRow_adsrKeyOn :
    opRow 0xB4#8 = some ⟨0xB4#8, "ADSR.KEYON", .selects, .zero, fun u _ _ _ => .adsrKeyOn u⟩ := rfl
theorem opRow_adsrKeyOff :
    opRow 0xB5#8 = some ⟨0xB5#8, "ADSR.KEYOFF", .selects, .zero, fun u _ _ _ => .adsrKeyOff u⟩ := rfl
theorem opRow_adsrTick :
    opRow 0xB6#8 = some ⟨0xB6#8, "ADSR.TICK", .selects, .zero, fun u _ _ _ => .adsrTick u⟩ := rfl
theorem opRow_adsrRdReg :
    opRow 0xBE#8 = some ⟨0xBE#8, "ADSR.RDREG", .selects, .used, fun u k _ _ => .adsrRdReg u k⟩ := rfl
theorem opRow_nsSeed :
    opRow 0xC0#8 = some ⟨0xC0#8, "NS.SEED", .selects, .zero, fun u _ a _ => .nsSeed u a⟩ := rfl
theorem opRow_nsTick :
    opRow 0xC1#8 = some ⟨0xC1#8, "NS.TICK", .selects, .zero, fun u _ _ _ => .nsTick u⟩ := rfl
theorem opRow_nsRdReg :
    opRow 0xCE#8 = some ⟨0xCE#8, "NS.RDREG", .selects, .used, fun u k _ _ => .nsRdReg u k⟩ := rfl
theorem opRow_oscSetFreq :
    opRow 0xD0#8 = some ⟨0xD0#8, "OSC.SETFREQ", .selects, .zero, fun u _ a _ => .oscSetFreq u a⟩ := rfl
theorem opRow_oscReset :
    opRow 0xD1#8 = some ⟨0xD1#8, "OSC.RESET", .selects, .zero, fun u _ _ _ => .oscReset u⟩ := rfl
theorem opRow_oscTick :
    opRow 0xD2#8 = some ⟨0xD2#8, "OSC.TICK", .selects, .zero, fun u _ _ _ => .oscTick u⟩ := rfl
theorem opRow_oscTblWr :
    opRow 0xD3#8 = some ⟨0xD3#8, "OSC.TBLWR", .selects, .used, fun u k a _ => .oscTblWr u k a⟩ := rfl
theorem opRow_oscTblRd :
    opRow 0xD4#8 = some ⟨0xD4#8, "OSC.TBLRD", .selects, .used, fun u k _ _ => .oscTblRd u k⟩ := rfl
theorem opRow_oscRdReg :
    opRow 0xDE#8 = some ⟨0xDE#8, "OSC.RDREG", .selects, .used, fun u k _ _ => .oscRdReg u k⟩ := rfl
theorem opRow_vNoteOn :
    opRow 0xE0#8 = some ⟨0xE0#8, "V.NOTEON", .zero, .zero, fun _ _ a b => .vNoteOn a b⟩ := rfl
theorem opRow_vNoteOff :
    opRow 0xE1#8 = some ⟨0xE1#8, "V.NOTEOFF", .zero, .zero, fun _ _ a _ => .vNoteOff a⟩ := rfl
theorem opRow_vSetFreq :
    opRow 0xE2#8 = some ⟨0xE2#8, "V.SETFREQ", .zero, .zero, fun _ _ a _ => .vSetFreq a⟩ := rfl
theorem opRow_vTick :
    opRow 0xE3#8 = some ⟨0xE3#8, "V.TICK", .zero, .zero, fun _ _ _ _ => .vTick⟩ := rfl
theorem opRow_vCc :
    opRow 0xE4#8 = some ⟨0xE4#8, "V.CC", .zero, .used, fun _ k a _ => .vCc k a⟩ := rfl
theorem opRow_vSetInstr :
    opRow 0xE5#8 = some ⟨0xE5#8, "V.SETINSTR", .zero, .used, fun _ k _ _ => .vSetInstr k⟩ := rfl
theorem opRow_vReset :
    opRow 0xE6#8 = some ⟨0xE6#8, "V.RESET", .zero, .zero, fun _ _ _ _ => .vReset⟩ := rfl
theorem opRow_vLastOut :
    opRow 0xE7#8 = some ⟨0xE7#8, "V.LASTOUT", .zero, .zero, fun _ _ _ _ => .vLastOut⟩ := rfl
theorem opRow_vRdReg :
    opRow 0xEE#8 = some ⟨0xEE#8, "V.RDREG", .zero, .used, fun _ k _ _ => .vRdReg k⟩ := rfl
theorem opRow_vWrReg :
    opRow 0xEF#8 = some ⟨0xEF#8, "V.WRREG", .zero, .used, fun _ k a _ => .vWrReg k a⟩ := rfl

end Sys2Proof
end

