-- ==== Sys2Proof/Laws/Float.lean ====
section
/-! SUPPORT. The basic facts of the binary32 operations: what packing a magnitude reads back as, what a change of sign
keeps, when a value is zero, and that every operation answers no NaN but the canonical one (spec/00_scope.md R18, R19). -/

namespace Sys2Proof.Machine

theorem fMag_packMag (neg : Bool) (m : Nat) : fMag (packMag neg m) = min m infMag := by
  have h : min m infMag ≤ 2139095040 := Nat.min_le_right _ _
  cases neg <;> simp [fMag, packMag, BitVec.toNat_ofNat] <;> omega

theorem fNeg_packMag (neg : Bool) (m : Nat) : fNeg? (packMag neg m) = neg := by
  have h : min m infMag ≤ 2139095040 := Nat.min_le_right _ _
  cases neg
  · simp [fNeg?, packMag, BitVec.msb_eq_decide]; omega
  · simp [fNeg?, packMag, BitVec.msb_eq_decide]; omega

theorem isNaN_packMag (neg : Bool) (m : Nat) : isNaN (packMag neg m) = false := by
  simp [isNaN, fMag_packMag]

/-- A rounded quotient is never a NaN. -/
theorem isNaN_roundQuot (neg : Bool) (num den : Nat) : isNaN (roundQuot neg num den) = false :=
  isNaN_packMag _ _

@[simp] theorem isNaN_fNaN : isNaN fNaN = true := by decide

theorem fNeg_roundQuot (neg : Bool) (num den : Nat) : fNeg? (roundQuot neg num den) = neg := fNeg_packMag _ _

/-- The magnitude of a zero value is zero. -/
theorem scaled_eq_zero {x : F32} : scaled x = 0 ↔ fMag x = 0 := by
  unfold scaled
  split
  · rfl
  · rename_i h
    simp only [Nat.mul_eq_zero, Nat.pow_eq_zero]
    omega

theorem fVal_eq_zero {x : F32} : fVal x = 0 ↔ fMag x = 0 := by
  simp only [fVal, signedScaled, div_eq_zero_iff]
  split <;> simp [scaled_eq_zero]

theorem not_nan_of_finite {x : F32} (h : fMag x < infMag) : isNaN x = false := by
  simpa [isNaN] using h.le

theorem not_nan_of_inf {x : F32} (h : isInf x = true) : isNaN x = false := by
  rw [isInf, beq_iff_eq] at h
  simp [isNaN, h]

theorem fCanon_of_not_nan {x : F32} (h : isNaN x = false) : fCanon x = x := by simp [fCanon, h]

@[simp] theorem isNaN_fCanon (x : F32) : isNaN (fCanon x) = isNaN x := by
  unfold fCanon; split <;> simp_all

@[simp] theorem fCanon_fCanon (x : F32) : fCanon (fCanon x) = fCanon x := by
  unfold fCanon; split <;> simp_all

@[simp] theorem fCanon_zero : fCanon 0#32 = 0#32 := by decide

/-- An operand read as binary32 is canonical (spec/00_scope.md R19). -/
@[simp] theorem fCanon_asF32 (w : Word) : fCanon (asF32 w) = asF32 w := fCanon_fCanon w

theorem fCanon_fadd (x y : F32) : fCanon (fadd x y) = fadd x y := by
  unfold fadd
  split
  · rfl
  · rename_i h
    simp only [Bool.or_eq_true, not_or, Bool.not_eq_true] at h
    split
    · split
      · rfl
      · exact fCanon_of_not_nan h.1
    · split
      · exact fCanon_of_not_nan h.2
      · split
        · exact fCanon_of_not_nan (isNaN_packMag _ _)
        · exact fCanon_of_not_nan (isNaN_roundQuot _ _ _)

theorem fCanon_fsub (x y : F32) : fCanon (fsub x y) = fsub x y := fCanon_fadd x (fneg y)

theorem fCanon_fmul (x y : F32) : fCanon (fmul x y) = fmul x y := by
  unfold fmul
  split
  · rfl
  · split
    · split
      · rfl
      · exact fCanon_of_not_nan (isNaN_packMag _ _)
    · exact fCanon_of_not_nan (isNaN_roundQuot _ _ _)

theorem fCanon_fdiv (x y : F32) : fCanon (fdiv x y) = fdiv x y := by
  unfold fdiv
  split
  · rfl
  · split
    · split
      · rfl
      · exact fCanon_of_not_nan (isNaN_packMag _ _)
    · split
      · exact fCanon_of_not_nan (isNaN_packMag _ _)
      · split
        · split
          · rfl
          · exact fCanon_of_not_nan (isNaN_packMag _ _)
        · exact fCanon_of_not_nan (isNaN_roundQuot _ _ _)

theorem fMag_fneg {x : F32} (h : isNaN x = false) : fMag (fneg x) = fMag x := by
  have : (x.toNat ^^^ 2147483648) % 2 ^ 31 = x.toNat % 2 ^ 31 := by rw [Nat.xor_mod_two_pow]; simp
  simpa [fneg, h, fMag] using this

theorem fMag_fabs {x : F32} (h : isNaN x = false) : fMag (fabs x) = fMag x := by
  have := Nat.and_two_pow_sub_one_eq_mod x.toNat 31
  simp only [fabs, h, fMag, BitVec.toNat_and, Bool.false_eq_true, if_false]
  norm_num at this ⊢
  rw [this]
  exact Nat.mod_mod _ _

theorem fNeg_fneg {x : F32} (h : isNaN x = false) : fNeg? (fneg x) = !fNeg? x := by
  simp [fneg, h, fNeg?, BitVec.msb_xor, show (2147483648#32 : BitVec 32).msb = true by decide]

theorem isNaN_fneg {x : F32} (h : isNaN x = false) : isNaN (fneg x) = false := by
  simpa [isNaN, fMag_fneg h] using h

theorem isInf_fneg {x : F32} (h : isNaN x = false) : isInf (fneg x) = isInf x := by simp [isInf, fMag_fneg h]

theorem signedScaled_fneg {x : F32} (h : isNaN x = false) : signedScaled (fneg x) = -signedScaled x := by
  simp only [signedScaled, fNeg_fneg h, scaled, fMag_fneg h]
  cases fNeg? x <;> simp

theorem fCanon_fneg (x : F32) : fCanon (fneg x) = fneg x := by
  by_cases h : isNaN x = true
  · simp [fneg, h, fCanon]
  · simp only [Bool.not_eq_true] at h
    exact fCanon_of_not_nan (by simpa [isNaN, fMag_fneg h] using h)

theorem fCanon_fabs (x : F32) : fCanon (fabs x) = fabs x := by
  by_cases h : isNaN x = true
  · simp [fabs, h, fCanon]
  · simp only [Bool.not_eq_true] at h
    exact fCanon_of_not_nan (by simpa [isNaN, fMag_fabs h] using h)

theorem fCanon_cos32 (m : Config.CosineModel) (x : F32) : fCanon (cos32 m x) = cos32 m x := by
  unfold cos32
  split
  · rfl
  · cases m
    · simp only
      split
      · exact fCanon_fCanon _
      · exact fCanon_of_not_nan (isNaN_roundQuot _ _ _)
    · exact fCanon_fCanon _

end Sys2Proof.Machine
end

