-- ==== Sys2Proof/Laws/State.lean ====
section
/-! SUPPORT. One lemma per field per update of the state, so that no proof unfolds a record update; what an accessor of a
unit reads after an update; and how the updates of a command commute with its start. -/

namespace Sys2Proof.Machine

variable (s : State)


/-! `State.setDl` -/

@[simp] theorem State.setDl_fs (u : Nat) (x : DelayLine) : (s.setDl u x).fs = s.fs := rfl
@[simp] theorem State.setDl_noise (u : Nat) (x : DelayLine) : (s.setDl u x).noise = s.noise := rfl
@[simp] theorem State.setDl_cosine (u : Nat) (x : DelayLine) : (s.setDl u x).cosine = s.cosine := rfl
@[simp] theorem State.setDl_dl (u : Nat) (x : DelayLine) : (s.setDl u x).dl = s.dl.set u x := rfl
@[simp] theorem State.setDl_op (u : Nat) (x : DelayLine) : (s.setDl u x).op = s.op := rfl
@[simp] theorem State.setDl_oz (u : Nat) (x : DelayLine) : (s.setDl u x).oz = s.oz := rfl
@[simp] theorem State.setDl_pz (u : Nat) (x : DelayLine) : (s.setDl u x).pz = s.pz := rfl
@[simp] theorem State.setDl_bq (u : Nat) (x : DelayLine) : (s.setDl u x).bq = s.bq := rfl
@[simp] theorem State.setDl_bow (u : Nat) (x : DelayLine) : (s.setDl u x).bow = s.bow := rfl
@[simp] theorem State.setDl_reed (u : Nat) (x : DelayLine) : (s.setDl u x).reed = s.reed := rfl
@[simp] theorem State.setDl_jet (u : Nat) (x : DelayLine) : (s.setDl u x).jet = s.jet := rfl
@[simp] theorem State.setDl_lip (u : Nat) (x : DelayLine) : (s.setDl u x).lip = s.lip := rfl
@[simp] theorem State.setDl_env (u : Nat) (x : DelayLine) : (s.setDl u x).env = s.env := rfl
@[simp] theorem State.setDl_adsr (u : Nat) (x : DelayLine) : (s.setDl u x).adsr = s.adsr := rfl
@[simp] theorem State.setDl_ns (u : Nat) (x : DelayLine) : (s.setDl u x).ns = s.ns := rfl
@[simp] theorem State.setDl_osc (u : Nat) (x : DelayLine) : (s.setDl u x).osc = s.osc := rfl
@[simp] theorem State.setDl_voice (u : Nat) (x : DelayLine) : (s.setDl u x).voice = s.voice := rfl
@[simp] theorem State.setDl_status (u : Nat) (x : DelayLine) : (s.setDl u x).status = s.status := rfl
@[simp] theorem State.setDl_irqEn (u : Nat) (x : DelayLine) : (s.setDl u x).irqEn = s.irqEn := rfl
@[simp] theorem State.setDl_lastWarn (u : Nat) (x : DelayLine) : (s.setDl u x).lastWarn = s.lastWarn := rfl
@[simp] theorem State.setDl_tickCount (u : Nat) (x : DelayLine) : (s.setDl u x).tickCount = s.tickCount := rfl
@[simp] theorem State.setDl_cmdReady (u : Nat) (x : DelayLine) : (s.setDl u x).cmdReady = s.cmdReady := rfl
@[simp] theorem State.setDl_rspValid (u : Nat) (x : DelayLine) : (s.setDl u x).rspValid = s.rspValid := rfl
@[simp] theorem State.setDl_rspR (u : Nat) (x : DelayLine) : (s.setDl u x).rspR = s.rspR := rfl
@[simp] theorem State.setDl_rspWarn (u : Nat) (x : DelayLine) : (s.setDl u x).rspWarn = s.rspWarn := rfl
@[simp] theorem State.setDl_irq (u : Nat) (x : DelayLine) : (s.setDl u x).irq = s.irq := rfl
@[simp] theorem State.setDl_inbox (u : Nat) (x : DelayLine) : (s.setDl u x).inbox = s.inbox := rfl
@[simp] theorem State.setDl_drawCount (u : Nat) (x : DelayLine) : (s.setDl u x).drawCount = s.drawCount := rfl
@[simp] theorem State.setDl_opAt (u : Nat) (x : DelayLine) (v : Nat) : (s.setDl u x).opAt v = s.opAt v := rfl
@[simp] theorem State.setDl_ozAt (u : Nat) (x : DelayLine) (v : Nat) : (s.setDl u x).ozAt v = s.ozAt v := rfl
@[simp] theorem State.setDl_pzAt (u : Nat) (x : DelayLine) (v : Nat) : (s.setDl u x).pzAt v = s.pzAt v := rfl
@[simp] theorem State.setDl_bqAt (u : Nat) (x : DelayLine) (v : Nat) : (s.setDl u x).bqAt v = s.bqAt v := rfl
@[simp] theorem State.setDl_bowAt (u : Nat) (x : DelayLine) (v : Nat) : (s.setDl u x).bowAt v = s.bowAt v := rfl
@[simp] theorem State.setDl_reedAt (u : Nat) (x : DelayLine) (v : Nat) : (s.setDl u x).reedAt v = s.reedAt v := rfl
@[simp] theorem State.setDl_jetAt (u : Nat) (x : DelayLine) (v : Nat) : (s.setDl u x).jetAt v = s.jetAt v := rfl
@[simp] theorem State.setDl_lipAt (u : Nat) (x : DelayLine) (v : Nat) : (s.setDl u x).lipAt v = s.lipAt v := rfl
@[simp] theorem State.setDl_envAt (u : Nat) (x : DelayLine) (v : Nat) : (s.setDl u x).envAt v = s.envAt v := rfl
@[simp] theorem State.setDl_adsrAt (u : Nat) (x : DelayLine) (v : Nat) : (s.setDl u x).adsrAt v = s.adsrAt v := rfl
@[simp] theorem State.setDl_nsAt (u : Nat) (x : DelayLine) (v : Nat) : (s.setDl u x).nsAt v = s.nsAt v := rfl
@[simp] theorem State.setDl_oscAt (u : Nat) (x : DelayLine) (v : Nat) : (s.setDl u x).oscAt v = s.oscAt v := rfl

/-! `State.setOp` -/

@[simp] theorem State.setOp_fs (u : Nat) (x : OnePole) : (s.setOp u x).fs = s.fs := rfl
@[simp] theorem State.setOp_noise (u : Nat) (x : OnePole) : (s.setOp u x).noise = s.noise := rfl
@[simp] theorem State.setOp_cosine (u : Nat) (x : OnePole) : (s.setOp u x).cosine = s.cosine := rfl
@[simp] theorem State.setOp_dl (u : Nat) (x : OnePole) : (s.setOp u x).dl = s.dl := rfl
@[simp] theorem State.setOp_op (u : Nat) (x : OnePole) : (s.setOp u x).op = s.op.set u x := rfl
@[simp] theorem State.setOp_oz (u : Nat) (x : OnePole) : (s.setOp u x).oz = s.oz := rfl
@[simp] theorem State.setOp_pz (u : Nat) (x : OnePole) : (s.setOp u x).pz = s.pz := rfl
@[simp] theorem State.setOp_bq (u : Nat) (x : OnePole) : (s.setOp u x).bq = s.bq := rfl
@[simp] theorem State.setOp_bow (u : Nat) (x : OnePole) : (s.setOp u x).bow = s.bow := rfl
@[simp] theorem State.setOp_reed (u : Nat) (x : OnePole) : (s.setOp u x).reed = s.reed := rfl
@[simp] theorem State.setOp_jet (u : Nat) (x : OnePole) : (s.setOp u x).jet = s.jet := rfl
@[simp] theorem State.setOp_lip (u : Nat) (x : OnePole) : (s.setOp u x).lip = s.lip := rfl
@[simp] theorem State.setOp_env (u : Nat) (x : OnePole) : (s.setOp u x).env = s.env := rfl
@[simp] theorem State.setOp_adsr (u : Nat) (x : OnePole) : (s.setOp u x).adsr = s.adsr := rfl
@[simp] theorem State.setOp_ns (u : Nat) (x : OnePole) : (s.setOp u x).ns = s.ns := rfl
@[simp] theorem State.setOp_osc (u : Nat) (x : OnePole) : (s.setOp u x).osc = s.osc := rfl
@[simp] theorem State.setOp_voice (u : Nat) (x : OnePole) : (s.setOp u x).voice = s.voice := rfl
@[simp] theorem State.setOp_status (u : Nat) (x : OnePole) : (s.setOp u x).status = s.status := rfl
@[simp] theorem State.setOp_irqEn (u : Nat) (x : OnePole) : (s.setOp u x).irqEn = s.irqEn := rfl
@[simp] theorem State.setOp_lastWarn (u : Nat) (x : OnePole) : (s.setOp u x).lastWarn = s.lastWarn := rfl
@[simp] theorem State.setOp_tickCount (u : Nat) (x : OnePole) : (s.setOp u x).tickCount = s.tickCount := rfl
@[simp] theorem State.setOp_cmdReady (u : Nat) (x : OnePole) : (s.setOp u x).cmdReady = s.cmdReady := rfl
@[simp] theorem State.setOp_rspValid (u : Nat) (x : OnePole) : (s.setOp u x).rspValid = s.rspValid := rfl
@[simp] theorem State.setOp_rspR (u : Nat) (x : OnePole) : (s.setOp u x).rspR = s.rspR := rfl
@[simp] theorem State.setOp_rspWarn (u : Nat) (x : OnePole) : (s.setOp u x).rspWarn = s.rspWarn := rfl
@[simp] theorem State.setOp_irq (u : Nat) (x : OnePole) : (s.setOp u x).irq = s.irq := rfl
@[simp] theorem State.setOp_inbox (u : Nat) (x : OnePole) : (s.setOp u x).inbox = s.inbox := rfl
@[simp] theorem State.setOp_drawCount (u : Nat) (x : OnePole) : (s.setOp u x).drawCount = s.drawCount := rfl
@[simp] theorem State.setOp_dlAt (u : Nat) (x : OnePole) (v : Nat) : (s.setOp u x).dlAt v = s.dlAt v := rfl
@[simp] theorem State.setOp_ozAt (u : Nat) (x : OnePole) (v : Nat) : (s.setOp u x).ozAt v = s.ozAt v := rfl
@[simp] theorem State.setOp_pzAt (u : Nat) (x : OnePole) (v : Nat) : (s.setOp u x).pzAt v = s.pzAt v := rfl
@[simp] theorem State.setOp_bqAt (u : Nat) (x : OnePole) (v : Nat) : (s.setOp u x).bqAt v = s.bqAt v := rfl
@[simp] theorem State.setOp_bowAt (u : Nat) (x : OnePole) (v : Nat) : (s.setOp u x).bowAt v = s.bowAt v := rfl
@[simp] theorem State.setOp_reedAt (u : Nat) (x : OnePole) (v : Nat) : (s.setOp u x).reedAt v = s.reedAt v := rfl
@[simp] theorem State.setOp_jetAt (u : Nat) (x : OnePole) (v : Nat) : (s.setOp u x).jetAt v = s.jetAt v := rfl
@[simp] theorem State.setOp_lipAt (u : Nat) (x : OnePole) (v : Nat) : (s.setOp u x).lipAt v = s.lipAt v := rfl
@[simp] theorem State.setOp_envAt (u : Nat) (x : OnePole) (v : Nat) : (s.setOp u x).envAt v = s.envAt v := rfl
@[simp] theorem State.setOp_adsrAt (u : Nat) (x : OnePole) (v : Nat) : (s.setOp u x).adsrAt v = s.adsrAt v := rfl
@[simp] theorem State.setOp_nsAt (u : Nat) (x : OnePole) (v : Nat) : (s.setOp u x).nsAt v = s.nsAt v := rfl
@[simp] theorem State.setOp_oscAt (u : Nat) (x : OnePole) (v : Nat) : (s.setOp u x).oscAt v = s.oscAt v := rfl

/-! `State.setOz` -/

@[simp] theorem State.setOz_fs (u : Nat) (x : OneZero) : (s.setOz u x).fs = s.fs := rfl
@[simp] theorem State.setOz_noise (u : Nat) (x : OneZero) : (s.setOz u x).noise = s.noise := rfl
@[simp] theorem State.setOz_cosine (u : Nat) (x : OneZero) : (s.setOz u x).cosine = s.cosine := rfl
@[simp] theorem State.setOz_dl (u : Nat) (x : OneZero) : (s.setOz u x).dl = s.dl := rfl
@[simp] theorem State.setOz_op (u : Nat) (x : OneZero) : (s.setOz u x).op = s.op := rfl
@[simp] theorem State.setOz_oz (u : Nat) (x : OneZero) : (s.setOz u x).oz = s.oz.set u x := rfl
@[simp] theorem State.setOz_pz (u : Nat) (x : OneZero) : (s.setOz u x).pz = s.pz := rfl
@[simp] theorem State.setOz_bq (u : Nat) (x : OneZero) : (s.setOz u x).bq = s.bq := rfl
@[simp] theorem State.setOz_bow (u : Nat) (x : OneZero) : (s.setOz u x).bow = s.bow := rfl
@[simp] theorem State.setOz_reed (u : Nat) (x : OneZero) : (s.setOz u x).reed = s.reed := rfl
@[simp] theorem State.setOz_jet (u : Nat) (x : OneZero) : (s.setOz u x).jet = s.jet := rfl
@[simp] theorem State.setOz_lip (u : Nat) (x : OneZero) : (s.setOz u x).lip = s.lip := rfl
@[simp] theorem State.setOz_env (u : Nat) (x : OneZero) : (s.setOz u x).env = s.env := rfl
@[simp] theorem State.setOz_adsr (u : Nat) (x : OneZero) : (s.setOz u x).adsr = s.adsr := rfl
@[simp] theorem State.setOz_ns (u : Nat) (x : OneZero) : (s.setOz u x).ns = s.ns := rfl
@[simp] theorem State.setOz_osc (u : Nat) (x : OneZero) : (s.setOz u x).osc = s.osc := rfl
@[simp] theorem State.setOz_voice (u : Nat) (x : OneZero) : (s.setOz u x).voice = s.voice := rfl
@[simp] theorem State.setOz_status (u : Nat) (x : OneZero) : (s.setOz u x).status = s.status := rfl
@[simp] theorem State.setOz_irqEn (u : Nat) (x : OneZero) : (s.setOz u x).irqEn = s.irqEn := rfl
@[simp] theorem State.setOz_lastWarn (u : Nat) (x : OneZero) : (s.setOz u x).lastWarn = s.lastWarn := rfl
@[simp] theorem State.setOz_tickCount (u : Nat) (x : OneZero) : (s.setOz u x).tickCount = s.tickCount := rfl
@[simp] theorem State.setOz_cmdReady (u : Nat) (x : OneZero) : (s.setOz u x).cmdReady = s.cmdReady := rfl
@[simp] theorem State.setOz_rspValid (u : Nat) (x : OneZero) : (s.setOz u x).rspValid = s.rspValid := rfl
@[simp] theorem State.setOz_rspR (u : Nat) (x : OneZero) : (s.setOz u x).rspR = s.rspR := rfl
@[simp] theorem State.setOz_rspWarn (u : Nat) (x : OneZero) : (s.setOz u x).rspWarn = s.rspWarn := rfl
@[simp] theorem State.setOz_irq (u : Nat) (x : OneZero) : (s.setOz u x).irq = s.irq := rfl
@[simp] theorem State.setOz_inbox (u : Nat) (x : OneZero) : (s.setOz u x).inbox = s.inbox := rfl
@[simp] theorem State.setOz_drawCount (u : Nat) (x : OneZero) : (s.setOz u x).drawCount = s.drawCount := rfl
@[simp] theorem State.setOz_dlAt (u : Nat) (x : OneZero) (v : Nat) : (s.setOz u x).dlAt v = s.dlAt v := rfl
@[simp] theorem State.setOz_opAt (u : Nat) (x : OneZero) (v : Nat) : (s.setOz u x).opAt v = s.opAt v := rfl
@[simp] theorem State.setOz_pzAt (u : Nat) (x : OneZero) (v : Nat) : (s.setOz u x).pzAt v = s.pzAt v := rfl
@[simp] theorem State.setOz_bqAt (u : Nat) (x : OneZero) (v : Nat) : (s.setOz u x).bqAt v = s.bqAt v := rfl
@[simp] theorem State.setOz_bowAt (u : Nat) (x : OneZero) (v : Nat) : (s.setOz u x).bowAt v = s.bowAt v := rfl
@[simp] theorem State.setOz_reedAt (u : Nat) (x : OneZero) (v : Nat) : (s.setOz u x).reedAt v = s.reedAt v := rfl
@[simp] theorem State.setOz_jetAt (u : Nat) (x : OneZero) (v : Nat) : (s.setOz u x).jetAt v = s.jetAt v := rfl
@[simp] theorem State.setOz_lipAt (u : Nat) (x : OneZero) (v : Nat) : (s.setOz u x).lipAt v = s.lipAt v := rfl
@[simp] theorem State.setOz_envAt (u : Nat) (x : OneZero) (v : Nat) : (s.setOz u x).envAt v = s.envAt v := rfl
@[simp] theorem State.setOz_adsrAt (u : Nat) (x : OneZero) (v : Nat) : (s.setOz u x).adsrAt v = s.adsrAt v := rfl
@[simp] theorem State.setOz_nsAt (u : Nat) (x : OneZero) (v : Nat) : (s.setOz u x).nsAt v = s.nsAt v := rfl
@[simp] theorem State.setOz_oscAt (u : Nat) (x : OneZero) (v : Nat) : (s.setOz u x).oscAt v = s.oscAt v := rfl

/-! `State.setPz` -/

@[simp] theorem State.setPz_fs (u : Nat) (x : PoleZero) : (s.setPz u x).fs = s.fs := rfl
@[simp] theorem State.setPz_noise (u : Nat) (x : PoleZero) : (s.setPz u x).noise = s.noise := rfl
@[simp] theorem State.setPz_cosine (u : Nat) (x : PoleZero) : (s.setPz u x).cosine = s.cosine := rfl
@[simp] theorem State.setPz_dl (u : Nat) (x : PoleZero) : (s.setPz u x).dl = s.dl := rfl
@[simp] theorem State.setPz_op (u : Nat) (x : PoleZero) : (s.setPz u x).op = s.op := rfl
@[simp] theorem State.setPz_oz (u : Nat) (x : PoleZero) : (s.setPz u x).oz = s.oz := rfl
@[simp] theorem State.setPz_pz (u : Nat) (x : PoleZero) : (s.setPz u x).pz = s.pz.set u x := rfl
@[simp] theorem State.setPz_bq (u : Nat) (x : PoleZero) : (s.setPz u x).bq = s.bq := rfl
@[simp] theorem State.setPz_bow (u : Nat) (x : PoleZero) : (s.setPz u x).bow = s.bow := rfl
@[simp] theorem State.setPz_reed (u : Nat) (x : PoleZero) : (s.setPz u x).reed = s.reed := rfl
@[simp] theorem State.setPz_jet (u : Nat) (x : PoleZero) : (s.setPz u x).jet = s.jet := rfl
@[simp] theorem State.setPz_lip (u : Nat) (x : PoleZero) : (s.setPz u x).lip = s.lip := rfl
@[simp] theorem State.setPz_env (u : Nat) (x : PoleZero) : (s.setPz u x).env = s.env := rfl
@[simp] theorem State.setPz_adsr (u : Nat) (x : PoleZero) : (s.setPz u x).adsr = s.adsr := rfl
@[simp] theorem State.setPz_ns (u : Nat) (x : PoleZero) : (s.setPz u x).ns = s.ns := rfl
@[simp] theorem State.setPz_osc (u : Nat) (x : PoleZero) : (s.setPz u x).osc = s.osc := rfl
@[simp] theorem State.setPz_voice (u : Nat) (x : PoleZero) : (s.setPz u x).voice = s.voice := rfl
@[simp] theorem State.setPz_status (u : Nat) (x : PoleZero) : (s.setPz u x).status = s.status := rfl
@[simp] theorem State.setPz_irqEn (u : Nat) (x : PoleZero) : (s.setPz u x).irqEn = s.irqEn := rfl
@[simp] theorem State.setPz_lastWarn (u : Nat) (x : PoleZero) : (s.setPz u x).lastWarn = s.lastWarn := rfl
@[simp] theorem State.setPz_tickCount (u : Nat) (x : PoleZero) : (s.setPz u x).tickCount = s.tickCount := rfl
@[simp] theorem State.setPz_cmdReady (u : Nat) (x : PoleZero) : (s.setPz u x).cmdReady = s.cmdReady := rfl
@[simp] theorem State.setPz_rspValid (u : Nat) (x : PoleZero) : (s.setPz u x).rspValid = s.rspValid := rfl
@[simp] theorem State.setPz_rspR (u : Nat) (x : PoleZero) : (s.setPz u x).rspR = s.rspR := rfl
@[simp] theorem State.setPz_rspWarn (u : Nat) (x : PoleZero) : (s.setPz u x).rspWarn = s.rspWarn := rfl
@[simp] theorem State.setPz_irq (u : Nat) (x : PoleZero) : (s.setPz u x).irq = s.irq := rfl
@[simp] theorem State.setPz_inbox (u : Nat) (x : PoleZero) : (s.setPz u x).inbox = s.inbox := rfl
@[simp] theorem State.setPz_drawCount (u : Nat) (x : PoleZero) : (s.setPz u x).drawCount = s.drawCount := rfl
@[simp] theorem State.setPz_dlAt (u : Nat) (x : PoleZero) (v : Nat) : (s.setPz u x).dlAt v = s.dlAt v := rfl
@[simp] theorem State.setPz_opAt (u : Nat) (x : PoleZero) (v : Nat) : (s.setPz u x).opAt v = s.opAt v := rfl
@[simp] theorem State.setPz_ozAt (u : Nat) (x : PoleZero) (v : Nat) : (s.setPz u x).ozAt v = s.ozAt v := rfl
@[simp] theorem State.setPz_bqAt (u : Nat) (x : PoleZero) (v : Nat) : (s.setPz u x).bqAt v = s.bqAt v := rfl
@[simp] theorem State.setPz_bowAt (u : Nat) (x : PoleZero) (v : Nat) : (s.setPz u x).bowAt v = s.bowAt v := rfl
@[simp] theorem State.setPz_reedAt (u : Nat) (x : PoleZero) (v : Nat) : (s.setPz u x).reedAt v = s.reedAt v := rfl
@[simp] theorem State.setPz_jetAt (u : Nat) (x : PoleZero) (v : Nat) : (s.setPz u x).jetAt v = s.jetAt v := rfl
@[simp] theorem State.setPz_lipAt (u : Nat) (x : PoleZero) (v : Nat) : (s.setPz u x).lipAt v = s.lipAt v := rfl
@[simp] theorem State.setPz_envAt (u : Nat) (x : PoleZero) (v : Nat) : (s.setPz u x).envAt v = s.envAt v := rfl
@[simp] theorem State.setPz_adsrAt (u : Nat) (x : PoleZero) (v : Nat) : (s.setPz u x).adsrAt v = s.adsrAt v := rfl
@[simp] theorem State.setPz_nsAt (u : Nat) (x : PoleZero) (v : Nat) : (s.setPz u x).nsAt v = s.nsAt v := rfl
@[simp] theorem State.setPz_oscAt (u : Nat) (x : PoleZero) (v : Nat) : (s.setPz u x).oscAt v = s.oscAt v := rfl

/-! `State.setBq` -/

@[simp] theorem State.setBq_fs (u : Nat) (x : Biquad) : (s.setBq u x).fs = s.fs := rfl
@[simp] theorem State.setBq_noise (u : Nat) (x : Biquad) : (s.setBq u x).noise = s.noise := rfl
@[simp] theorem State.setBq_cosine (u : Nat) (x : Biquad) : (s.setBq u x).cosine = s.cosine := rfl
@[simp] theorem State.setBq_dl (u : Nat) (x : Biquad) : (s.setBq u x).dl = s.dl := rfl
@[simp] theorem State.setBq_op (u : Nat) (x : Biquad) : (s.setBq u x).op = s.op := rfl
@[simp] theorem State.setBq_oz (u : Nat) (x : Biquad) : (s.setBq u x).oz = s.oz := rfl
@[simp] theorem State.setBq_pz (u : Nat) (x : Biquad) : (s.setBq u x).pz = s.pz := rfl
@[simp] theorem State.setBq_bq (u : Nat) (x : Biquad) : (s.setBq u x).bq = s.bq.set u x := rfl
@[simp] theorem State.setBq_bow (u : Nat) (x : Biquad) : (s.setBq u x).bow = s.bow := rfl
@[simp] theorem State.setBq_reed (u : Nat) (x : Biquad) : (s.setBq u x).reed = s.reed := rfl
@[simp] theorem State.setBq_jet (u : Nat) (x : Biquad) : (s.setBq u x).jet = s.jet := rfl
@[simp] theorem State.setBq_lip (u : Nat) (x : Biquad) : (s.setBq u x).lip = s.lip := rfl
@[simp] theorem State.setBq_env (u : Nat) (x : Biquad) : (s.setBq u x).env = s.env := rfl
@[simp] theorem State.setBq_adsr (u : Nat) (x : Biquad) : (s.setBq u x).adsr = s.adsr := rfl
@[simp] theorem State.setBq_ns (u : Nat) (x : Biquad) : (s.setBq u x).ns = s.ns := rfl
@[simp] theorem State.setBq_osc (u : Nat) (x : Biquad) : (s.setBq u x).osc = s.osc := rfl
@[simp] theorem State.setBq_voice (u : Nat) (x : Biquad) : (s.setBq u x).voice = s.voice := rfl
@[simp] theorem State.setBq_status (u : Nat) (x : Biquad) : (s.setBq u x).status = s.status := rfl
@[simp] theorem State.setBq_irqEn (u : Nat) (x : Biquad) : (s.setBq u x).irqEn = s.irqEn := rfl
@[simp] theorem State.setBq_lastWarn (u : Nat) (x : Biquad) : (s.setBq u x).lastWarn = s.lastWarn := rfl
@[simp] theorem State.setBq_tickCount (u : Nat) (x : Biquad) : (s.setBq u x).tickCount = s.tickCount := rfl
@[simp] theorem State.setBq_cmdReady (u : Nat) (x : Biquad) : (s.setBq u x).cmdReady = s.cmdReady := rfl
@[simp] theorem State.setBq_rspValid (u : Nat) (x : Biquad) : (s.setBq u x).rspValid = s.rspValid := rfl
@[simp] theorem State.setBq_rspR (u : Nat) (x : Biquad) : (s.setBq u x).rspR = s.rspR := rfl
@[simp] theorem State.setBq_rspWarn (u : Nat) (x : Biquad) : (s.setBq u x).rspWarn = s.rspWarn := rfl
@[simp] theorem State.setBq_irq (u : Nat) (x : Biquad) : (s.setBq u x).irq = s.irq := rfl
@[simp] theorem State.setBq_inbox (u : Nat) (x : Biquad) : (s.setBq u x).inbox = s.inbox := rfl
@[simp] theorem State.setBq_drawCount (u : Nat) (x : Biquad) : (s.setBq u x).drawCount = s.drawCount := rfl
@[simp] theorem State.setBq_dlAt (u : Nat) (x : Biquad) (v : Nat) : (s.setBq u x).dlAt v = s.dlAt v := rfl
@[simp] theorem State.setBq_opAt (u : Nat) (x : Biquad) (v : Nat) : (s.setBq u x).opAt v = s.opAt v := rfl
@[simp] theorem State.setBq_ozAt (u : Nat) (x : Biquad) (v : Nat) : (s.setBq u x).ozAt v = s.ozAt v := rfl
@[simp] theorem State.setBq_pzAt (u : Nat) (x : Biquad) (v : Nat) : (s.setBq u x).pzAt v = s.pzAt v := rfl
@[simp] theorem State.setBq_bowAt (u : Nat) (x : Biquad) (v : Nat) : (s.setBq u x).bowAt v = s.bowAt v := rfl
@[simp] theorem State.setBq_reedAt (u : Nat) (x : Biquad) (v : Nat) : (s.setBq u x).reedAt v = s.reedAt v := rfl
@[simp] theorem State.setBq_jetAt (u : Nat) (x : Biquad) (v : Nat) : (s.setBq u x).jetAt v = s.jetAt v := rfl
@[simp] theorem State.setBq_lipAt (u : Nat) (x : Biquad) (v : Nat) : (s.setBq u x).lipAt v = s.lipAt v := rfl
@[simp] theorem State.setBq_envAt (u : Nat) (x : Biquad) (v : Nat) : (s.setBq u x).envAt v = s.envAt v := rfl
@[simp] theorem State.setBq_adsrAt (u : Nat) (x : Biquad) (v : Nat) : (s.setBq u x).adsrAt v = s.adsrAt v := rfl
@[simp] theorem State.setBq_nsAt (u : Nat) (x : Biquad) (v : Nat) : (s.setBq u x).nsAt v = s.nsAt v := rfl
@[simp] theorem State.setBq_oscAt (u : Nat) (x : Biquad) (v : Nat) : (s.setBq u x).oscAt v = s.oscAt v := rfl

/-! `State.setBow` -/

@[simp] theorem State.setBow_fs (u : Nat) (x : Bow) : (s.setBow u x).fs = s.fs := rfl
@[simp] theorem State.setBow_noise (u : Nat) (x : Bow) : (s.setBow u x).noise = s.noise := rfl
@[simp] theorem State.setBow_cosine (u : Nat) (x : Bow) : (s.setBow u x).cosine = s.cosine := rfl
@[simp] theorem State.setBow_dl (u : Nat) (x : Bow) : (s.setBow u x).dl = s.dl := rfl
@[simp] theorem State.setBow_op (u : Nat) (x : Bow) : (s.setBow u x).op = s.op := rfl
@[simp] theorem State.setBow_oz (u : Nat) (x : Bow) : (s.setBow u x).oz = s.oz := rfl
@[simp] theorem State.setBow_pz (u : Nat) (x : Bow) : (s.setBow u x).pz = s.pz := rfl
@[simp] theorem State.setBow_bq (u : Nat) (x : Bow) : (s.setBow u x).bq = s.bq := rfl
@[simp] theorem State.setBow_bow (u : Nat) (x : Bow) : (s.setBow u x).bow = s.bow.set u x := rfl
@[simp] theorem State.setBow_reed (u : Nat) (x : Bow) : (s.setBow u x).reed = s.reed := rfl
@[simp] theorem State.setBow_jet (u : Nat) (x : Bow) : (s.setBow u x).jet = s.jet := rfl
@[simp] theorem State.setBow_lip (u : Nat) (x : Bow) : (s.setBow u x).lip = s.lip := rfl
@[simp] theorem State.setBow_env (u : Nat) (x : Bow) : (s.setBow u x).env = s.env := rfl
@[simp] theorem State.setBow_adsr (u : Nat) (x : Bow) : (s.setBow u x).adsr = s.adsr := rfl
@[simp] theorem State.setBow_ns (u : Nat) (x : Bow) : (s.setBow u x).ns = s.ns := rfl
@[simp] theorem State.setBow_osc (u : Nat) (x : Bow) : (s.setBow u x).osc = s.osc := rfl
@[simp] theorem State.setBow_voice (u : Nat) (x : Bow) : (s.setBow u x).voice = s.voice := rfl
@[simp] theorem State.setBow_status (u : Nat) (x : Bow) : (s.setBow u x).status = s.status := rfl
@[simp] theorem State.setBow_irqEn (u : Nat) (x : Bow) : (s.setBow u x).irqEn = s.irqEn := rfl
@[simp] theorem State.setBow_lastWarn (u : Nat) (x : Bow) : (s.setBow u x).lastWarn = s.lastWarn := rfl
@[simp] theorem State.setBow_tickCount (u : Nat) (x : Bow) : (s.setBow u x).tickCount = s.tickCount := rfl
@[simp] theorem State.setBow_cmdReady (u : Nat) (x : Bow) : (s.setBow u x).cmdReady = s.cmdReady := rfl
@[simp] theorem State.setBow_rspValid (u : Nat) (x : Bow) : (s.setBow u x).rspValid = s.rspValid := rfl
@[simp] theorem State.setBow_rspR (u : Nat) (x : Bow) : (s.setBow u x).rspR = s.rspR := rfl
@[simp] theorem State.setBow_rspWarn (u : Nat) (x : Bow) : (s.setBow u x).rspWarn = s.rspWarn := rfl
@[simp] theorem State.setBow_irq (u : Nat) (x : Bow) : (s.setBow u x).irq = s.irq := rfl
@[simp] theorem State.setBow_inbox (u : Nat) (x : Bow) : (s.setBow u x).inbox = s.inbox := rfl
@[simp] theorem State.setBow_drawCount (u : Nat) (x : Bow) : (s.setBow u x).drawCount = s.drawCount := rfl
@[simp] theorem State.setBow_dlAt (u : Nat) (x : Bow) (v : Nat) : (s.setBow u x).dlAt v = s.dlAt v := rfl
@[simp] theorem State.setBow_opAt (u : Nat) (x : Bow) (v : Nat) : (s.setBow u x).opAt v = s.opAt v := rfl
@[simp] theorem State.setBow_ozAt (u : Nat) (x : Bow) (v : Nat) : (s.setBow u x).ozAt v = s.ozAt v := rfl
@[simp] theorem State.setBow_pzAt (u : Nat) (x : Bow) (v : Nat) : (s.setBow u x).pzAt v = s.pzAt v := rfl
@[simp] theorem State.setBow_bqAt (u : Nat) (x : Bow) (v : Nat) : (s.setBow u x).bqAt v = s.bqAt v := rfl
@[simp] theorem State.setBow_reedAt (u : Nat) (x : Bow) (v : Nat) : (s.setBow u x).reedAt v = s.reedAt v := rfl
@[simp] theorem State.setBow_jetAt (u : Nat) (x : Bow) (v : Nat) : (s.setBow u x).jetAt v = s.jetAt v := rfl
@[simp] theorem State.setBow_lipAt (u : Nat) (x : Bow) (v : Nat) : (s.setBow u x).lipAt v = s.lipAt v := rfl
@[simp] theorem State.setBow_envAt (u : Nat) (x : Bow) (v : Nat) : (s.setBow u x).envAt v = s.envAt v := rfl
@[simp] theorem State.setBow_adsrAt (u : Nat) (x : Bow) (v : Nat) : (s.setBow u x).adsrAt v = s.adsrAt v := rfl
@[simp] theorem State.setBow_nsAt (u : Nat) (x : Bow) (v : Nat) : (s.setBow u x).nsAt v = s.nsAt v := rfl
@[simp] theorem State.setBow_oscAt (u : Nat) (x : Bow) (v : Nat) : (s.setBow u x).oscAt v = s.oscAt v := rfl

/-! `State.setReed` -/

@[simp] theorem State.setReed_fs (u : Nat) (x : Reed) : (s.setReed u x).fs = s.fs := rfl
@[simp] theorem State.setReed_noise (u : Nat) (x : Reed) : (s.setReed u x).noise = s.noise := rfl
@[simp] theorem State.setReed_cosine (u : Nat) (x : Reed) : (s.setReed u x).cosine = s.cosine := rfl
@[simp] theorem State.setReed_dl (u : Nat) (x : Reed) : (s.setReed u x).dl = s.dl := rfl
@[simp] theorem State.setReed_op (u : Nat) (x : Reed) : (s.setReed u x).op = s.op := rfl
@[simp] theorem State.setReed_oz (u : Nat) (x : Reed) : (s.setReed u x).oz = s.oz := rfl
@[simp] theorem State.setReed_pz (u : Nat) (x : Reed) : (s.setReed u x).pz = s.pz := rfl
@[simp] theorem State.setReed_bq (u : Nat) (x : Reed) : (s.setReed u x).bq = s.bq := rfl
@[simp] theorem State.setReed_bow (u : Nat) (x : Reed) : (s.setReed u x).bow = s.bow := rfl
@[simp] theorem State.setReed_reed (u : Nat) (x : Reed) : (s.setReed u x).reed = s.reed.set u x := rfl
@[simp] theorem State.setReed_jet (u : Nat) (x : Reed) : (s.setReed u x).jet = s.jet := rfl
@[simp] theorem State.setReed_lip (u : Nat) (x : Reed) : (s.setReed u x).lip = s.lip := rfl
@[simp] theorem State.setReed_env (u : Nat) (x : Reed) : (s.setReed u x).env = s.env := rfl
@[simp] theorem State.setReed_adsr (u : Nat) (x : Reed) : (s.setReed u x).adsr = s.adsr := rfl
@[simp] theorem State.setReed_ns (u : Nat) (x : Reed) : (s.setReed u x).ns = s.ns := rfl
@[simp] theorem State.setReed_osc (u : Nat) (x : Reed) : (s.setReed u x).osc = s.osc := rfl
@[simp] theorem State.setReed_voice (u : Nat) (x : Reed) : (s.setReed u x).voice = s.voice := rfl
@[simp] theorem State.setReed_status (u : Nat) (x : Reed) : (s.setReed u x).status = s.status := rfl
@[simp] theorem State.setReed_irqEn (u : Nat) (x : Reed) : (s.setReed u x).irqEn = s.irqEn := rfl
@[simp] theorem State.setReed_lastWarn (u : Nat) (x : Reed) : (s.setReed u x).lastWarn = s.lastWarn := rfl
@[simp] theorem State.setReed_tickCount (u : Nat) (x : Reed) : (s.setReed u x).tickCount = s.tickCount := rfl
@[simp] theorem State.setReed_cmdReady (u : Nat) (x : Reed) : (s.setReed u x).cmdReady = s.cmdReady := rfl
@[simp] theorem State.setReed_rspValid (u : Nat) (x : Reed) : (s.setReed u x).rspValid = s.rspValid := rfl
@[simp] theorem State.setReed_rspR (u : Nat) (x : Reed) : (s.setReed u x).rspR = s.rspR := rfl
@[simp] theorem State.setReed_rspWarn (u : Nat) (x : Reed) : (s.setReed u x).rspWarn = s.rspWarn := rfl
@[simp] theorem State.setReed_irq (u : Nat) (x : Reed) : (s.setReed u x).irq = s.irq := rfl
@[simp] theorem State.setReed_inbox (u : Nat) (x : Reed) : (s.setReed u x).inbox = s.inbox := rfl
@[simp] theorem State.setReed_drawCount (u : Nat) (x : Reed) : (s.setReed u x).drawCount = s.drawCount := rfl
@[simp] theorem State.setReed_dlAt (u : Nat) (x : Reed) (v : Nat) : (s.setReed u x).dlAt v = s.dlAt v := rfl
@[simp] theorem State.setReed_opAt (u : Nat) (x : Reed) (v : Nat) : (s.setReed u x).opAt v = s.opAt v := rfl
@[simp] theorem State.setReed_ozAt (u : Nat) (x : Reed) (v : Nat) : (s.setReed u x).ozAt v = s.ozAt v := rfl
@[simp] theorem State.setReed_pzAt (u : Nat) (x : Reed) (v : Nat) : (s.setReed u x).pzAt v = s.pzAt v := rfl
@[simp] theorem State.setReed_bqAt (u : Nat) (x : Reed) (v : Nat) : (s.setReed u x).bqAt v = s.bqAt v := rfl
@[simp] theorem State.setReed_bowAt (u : Nat) (x : Reed) (v : Nat) : (s.setReed u x).bowAt v = s.bowAt v := rfl
@[simp] theorem State.setReed_jetAt (u : Nat) (x : Reed) (v : Nat) : (s.setReed u x).jetAt v = s.jetAt v := rfl
@[simp] theorem State.setReed_lipAt (u : Nat) (x : Reed) (v : Nat) : (s.setReed u x).lipAt v = s.lipAt v := rfl
@[simp] theorem State.setReed_envAt (u : Nat) (x : Reed) (v : Nat) : (s.setReed u x).envAt v = s.envAt v := rfl
@[simp] theorem State.setReed_adsrAt (u : Nat) (x : Reed) (v : Nat) : (s.setReed u x).adsrAt v = s.adsrAt v := rfl
@[simp] theorem State.setReed_nsAt (u : Nat) (x : Reed) (v : Nat) : (s.setReed u x).nsAt v = s.nsAt v := rfl
@[simp] theorem State.setReed_oscAt (u : Nat) (x : Reed) (v : Nat) : (s.setReed u x).oscAt v = s.oscAt v := rfl

/-! `State.setJet` -/

@[simp] theorem State.setJet_fs (u : Nat) (x : Jet) : (s.setJet u x).fs = s.fs := rfl
@[simp] theorem State.setJet_noise (u : Nat) (x : Jet) : (s.setJet u x).noise = s.noise := rfl
@[simp] theorem State.setJet_cosine (u : Nat) (x : Jet) : (s.setJet u x).cosine = s.cosine := rfl
@[simp] theorem State.setJet_dl (u : Nat) (x : Jet) : (s.setJet u x).dl = s.dl := rfl
@[simp] theorem State.setJet_op (u : Nat) (x : Jet) : (s.setJet u x).op = s.op := rfl
@[simp] theorem State.setJet_oz (u : Nat) (x : Jet) : (s.setJet u x).oz = s.oz := rfl
@[simp] theorem State.setJet_pz (u : Nat) (x : Jet) : (s.setJet u x).pz = s.pz := rfl
@[simp] theorem State.setJet_bq (u : Nat) (x : Jet) : (s.setJet u x).bq = s.bq := rfl
@[simp] theorem State.setJet_bow (u : Nat) (x : Jet) : (s.setJet u x).bow = s.bow := rfl
@[simp] theorem State.setJet_reed (u : Nat) (x : Jet) : (s.setJet u x).reed = s.reed := rfl
@[simp] theorem State.setJet_jet (u : Nat) (x : Jet) : (s.setJet u x).jet = s.jet.set u x := rfl
@[simp] theorem State.setJet_lip (u : Nat) (x : Jet) : (s.setJet u x).lip = s.lip := rfl
@[simp] theorem State.setJet_env (u : Nat) (x : Jet) : (s.setJet u x).env = s.env := rfl
@[simp] theorem State.setJet_adsr (u : Nat) (x : Jet) : (s.setJet u x).adsr = s.adsr := rfl
@[simp] theorem State.setJet_ns (u : Nat) (x : Jet) : (s.setJet u x).ns = s.ns := rfl
@[simp] theorem State.setJet_osc (u : Nat) (x : Jet) : (s.setJet u x).osc = s.osc := rfl
@[simp] theorem State.setJet_voice (u : Nat) (x : Jet) : (s.setJet u x).voice = s.voice := rfl
@[simp] theorem State.setJet_status (u : Nat) (x : Jet) : (s.setJet u x).status = s.status := rfl
@[simp] theorem State.setJet_irqEn (u : Nat) (x : Jet) : (s.setJet u x).irqEn = s.irqEn := rfl
@[simp] theorem State.setJet_lastWarn (u : Nat) (x : Jet) : (s.setJet u x).lastWarn = s.lastWarn := rfl
@[simp] theorem State.setJet_tickCount (u : Nat) (x : Jet) : (s.setJet u x).tickCount = s.tickCount := rfl
@[simp] theorem State.setJet_cmdReady (u : Nat) (x : Jet) : (s.setJet u x).cmdReady = s.cmdReady := rfl
@[simp] theorem State.setJet_rspValid (u : Nat) (x : Jet) : (s.setJet u x).rspValid = s.rspValid := rfl
@[simp] theorem State.setJet_rspR (u : Nat) (x : Jet) : (s.setJet u x).rspR = s.rspR := rfl
@[simp] theorem State.setJet_rspWarn (u : Nat) (x : Jet) : (s.setJet u x).rspWarn = s.rspWarn := rfl
@[simp] theorem State.setJet_irq (u : Nat) (x : Jet) : (s.setJet u x).irq = s.irq := rfl
@[simp] theorem State.setJet_inbox (u : Nat) (x : Jet) : (s.setJet u x).inbox = s.inbox := rfl
@[simp] theorem State.setJet_drawCount (u : Nat) (x : Jet) : (s.setJet u x).drawCount = s.drawCount := rfl
@[simp] theorem State.setJet_dlAt (u : Nat) (x : Jet) (v : Nat) : (s.setJet u x).dlAt v = s.dlAt v := rfl
@[simp] theorem State.setJet_opAt (u : Nat) (x : Jet) (v : Nat) : (s.setJet u x).opAt v = s.opAt v := rfl
@[simp] theorem State.setJet_ozAt (u : Nat) (x : Jet) (v : Nat) : (s.setJet u x).ozAt v = s.ozAt v := rfl
@[simp] theorem State.setJet_pzAt (u : Nat) (x : Jet) (v : Nat) : (s.setJet u x).pzAt v = s.pzAt v := rfl
@[simp] theorem State.setJet_bqAt (u : Nat) (x : Jet) (v : Nat) : (s.setJet u x).bqAt v = s.bqAt v := rfl
@[simp] theorem State.setJet_bowAt (u : Nat) (x : Jet) (v : Nat) : (s.setJet u x).bowAt v = s.bowAt v := rfl
@[simp] theorem State.setJet_reedAt (u : Nat) (x : Jet) (v : Nat) : (s.setJet u x).reedAt v = s.reedAt v := rfl
@[simp] theorem State.setJet_lipAt (u : Nat) (x : Jet) (v : Nat) : (s.setJet u x).lipAt v = s.lipAt v := rfl
@[simp] theorem State.setJet_envAt (u : Nat) (x : Jet) (v : Nat) : (s.setJet u x).envAt v = s.envAt v := rfl
@[simp] theorem State.setJet_adsrAt (u : Nat) (x : Jet) (v : Nat) : (s.setJet u x).adsrAt v = s.adsrAt v := rfl
@[simp] theorem State.setJet_nsAt (u : Nat) (x : Jet) (v : Nat) : (s.setJet u x).nsAt v = s.nsAt v := rfl
@[simp] theorem State.setJet_oscAt (u : Nat) (x : Jet) (v : Nat) : (s.setJet u x).oscAt v = s.oscAt v := rfl

/-! `State.setLip` -/

@[simp] theorem State.setLip_fs (u : Nat) (x : Lip) : (s.setLip u x).fs = s.fs := rfl
@[simp] theorem State.setLip_noise (u : Nat) (x : Lip) : (s.setLip u x).noise = s.noise := rfl
@[simp] theorem State.setLip_cosine (u : Nat) (x : Lip) : (s.setLip u x).cosine = s.cosine := rfl
@[simp] theorem State.setLip_dl (u : Nat) (x : Lip) : (s.setLip u x).dl = s.dl := rfl
@[simp] theorem State.setLip_op (u : Nat) (x : Lip) : (s.setLip u x).op = s.op := rfl
@[simp] theorem State.setLip_oz (u : Nat) (x : Lip) : (s.setLip u x).oz = s.oz := rfl
@[simp] theorem State.setLip_pz (u : Nat) (x : Lip) : (s.setLip u x).pz = s.pz := rfl
@[simp] theorem State.setLip_bq (u : Nat) (x : Lip) : (s.setLip u x).bq = s.bq := rfl
@[simp] theorem State.setLip_bow (u : Nat) (x : Lip) : (s.setLip u x).bow = s.bow := rfl
@[simp] theorem State.setLip_reed (u : Nat) (x : Lip) : (s.setLip u x).reed = s.reed := rfl
@[simp] theorem State.setLip_jet (u : Nat) (x : Lip) : (s.setLip u x).jet = s.jet := rfl
@[simp] theorem State.setLip_lip (u : Nat) (x : Lip) : (s.setLip u x).lip = s.lip.set u x := rfl
@[simp] theorem State.setLip_env (u : Nat) (x : Lip) : (s.setLip u x).env = s.env := rfl
@[simp] theorem State.setLip_adsr (u : Nat) (x : Lip) : (s.setLip u x).adsr = s.adsr := rfl
@[simp] theorem State.setLip_ns (u : Nat) (x : Lip) : (s.setLip u x).ns = s.ns := rfl
@[simp] theorem State.setLip_osc (u : Nat) (x : Lip) : (s.setLip u x).osc = s.osc := rfl
@[simp] theorem State.setLip_voice (u : Nat) (x : Lip) : (s.setLip u x).voice = s.voice := rfl
@[simp] theorem State.setLip_status (u : Nat) (x : Lip) : (s.setLip u x).status = s.status := rfl
@[simp] theorem State.setLip_irqEn (u : Nat) (x : Lip) : (s.setLip u x).irqEn = s.irqEn := rfl
@[simp] theorem State.setLip_lastWarn (u : Nat) (x : Lip) : (s.setLip u x).lastWarn = s.lastWarn := rfl
@[simp] theorem State.setLip_tickCount (u : Nat) (x : Lip) : (s.setLip u x).tickCount = s.tickCount := rfl
@[simp] theorem State.setLip_cmdReady (u : Nat) (x : Lip) : (s.setLip u x).cmdReady = s.cmdReady := rfl
@[simp] theorem State.setLip_rspValid (u : Nat) (x : Lip) : (s.setLip u x).rspValid = s.rspValid := rfl
@[simp] theorem State.setLip_rspR (u : Nat) (x : Lip) : (s.setLip u x).rspR = s.rspR := rfl
@[simp] theorem State.setLip_rspWarn (u : Nat) (x : Lip) : (s.setLip u x).rspWarn = s.rspWarn := rfl
@[simp] theorem State.setLip_irq (u : Nat) (x : Lip) : (s.setLip u x).irq = s.irq := rfl
@[simp] theorem State.setLip_inbox (u : Nat) (x : Lip) : (s.setLip u x).inbox = s.inbox := rfl
@[simp] theorem State.setLip_drawCount (u : Nat) (x : Lip) : (s.setLip u x).drawCount = s.drawCount := rfl
@[simp] theorem State.setLip_dlAt (u : Nat) (x : Lip) (v : Nat) : (s.setLip u x).dlAt v = s.dlAt v := rfl
@[simp] theorem State.setLip_opAt (u : Nat) (x : Lip) (v : Nat) : (s.setLip u x).opAt v = s.opAt v := rfl
@[simp] theorem State.setLip_ozAt (u : Nat) (x : Lip) (v : Nat) : (s.setLip u x).ozAt v = s.ozAt v := rfl
@[simp] theorem State.setLip_pzAt (u : Nat) (x : Lip) (v : Nat) : (s.setLip u x).pzAt v = s.pzAt v := rfl
@[simp] theorem State.setLip_bqAt (u : Nat) (x : Lip) (v : Nat) : (s.setLip u x).bqAt v = s.bqAt v := rfl
@[simp] theorem State.setLip_bowAt (u : Nat) (x : Lip) (v : Nat) : (s.setLip u x).bowAt v = s.bowAt v := rfl
@[simp] theorem State.setLip_reedAt (u : Nat) (x : Lip) (v : Nat) : (s.setLip u x).reedAt v = s.reedAt v := rfl
@[simp] theorem State.setLip_jetAt (u : Nat) (x : Lip) (v : Nat) : (s.setLip u x).jetAt v = s.jetAt v := rfl
@[simp] theorem State.setLip_envAt (u : Nat) (x : Lip) (v : Nat) : (s.setLip u x).envAt v = s.envAt v := rfl
@[simp] theorem State.setLip_adsrAt (u : Nat) (x : Lip) (v : Nat) : (s.setLip u x).adsrAt v = s.adsrAt v := rfl
@[simp] theorem State.setLip_nsAt (u : Nat) (x : Lip) (v : Nat) : (s.setLip u x).nsAt v = s.nsAt v := rfl
@[simp] theorem State.setLip_oscAt (u : Nat) (x : Lip) (v : Nat) : (s.setLip u x).oscAt v = s.oscAt v := rfl

/-! `State.setEnv` -/

@[simp] theorem State.setEnv_fs (u : Nat) (x : Env) : (s.setEnv u x).fs = s.fs := rfl
@[simp] theorem State.setEnv_noise (u : Nat) (x : Env) : (s.setEnv u x).noise = s.noise := rfl
@[simp] theorem State.setEnv_cosine (u : Nat) (x : Env) : (s.setEnv u x).cosine = s.cosine := rfl
@[simp] theorem State.setEnv_dl (u : Nat) (x : Env) : (s.setEnv u x).dl = s.dl := rfl
@[simp] theorem State.setEnv_op (u : Nat) (x : Env) : (s.setEnv u x).op = s.op := rfl
@[simp] theorem State.setEnv_oz (u : Nat) (x : Env) : (s.setEnv u x).oz = s.oz := rfl
@[simp] theorem State.setEnv_pz (u : Nat) (x : Env) : (s.setEnv u x).pz = s.pz := rfl
@[simp] theorem State.setEnv_bq (u : Nat) (x : Env) : (s.setEnv u x).bq = s.bq := rfl
@[simp] theorem State.setEnv_bow (u : Nat) (x : Env) : (s.setEnv u x).bow = s.bow := rfl
@[simp] theorem State.setEnv_reed (u : Nat) (x : Env) : (s.setEnv u x).reed = s.reed := rfl
@[simp] theorem State.setEnv_jet (u : Nat) (x : Env) : (s.setEnv u x).jet = s.jet := rfl
@[simp] theorem State.setEnv_lip (u : Nat) (x : Env) : (s.setEnv u x).lip = s.lip := rfl
@[simp] theorem State.setEnv_env (u : Nat) (x : Env) : (s.setEnv u x).env = s.env.set u x := rfl
@[simp] theorem State.setEnv_adsr (u : Nat) (x : Env) : (s.setEnv u x).adsr = s.adsr := rfl
@[simp] theorem State.setEnv_ns (u : Nat) (x : Env) : (s.setEnv u x).ns = s.ns := rfl
@[simp] theorem State.setEnv_osc (u : Nat) (x : Env) : (s.setEnv u x).osc = s.osc := rfl
@[simp] theorem State.setEnv_voice (u : Nat) (x : Env) : (s.setEnv u x).voice = s.voice := rfl
@[simp] theorem State.setEnv_status (u : Nat) (x : Env) : (s.setEnv u x).status = s.status := rfl
@[simp] theorem State.setEnv_irqEn (u : Nat) (x : Env) : (s.setEnv u x).irqEn = s.irqEn := rfl
@[simp] theorem State.setEnv_lastWarn (u : Nat) (x : Env) : (s.setEnv u x).lastWarn = s.lastWarn := rfl
@[simp] theorem State.setEnv_tickCount (u : Nat) (x : Env) : (s.setEnv u x).tickCount = s.tickCount := rfl
@[simp] theorem State.setEnv_cmdReady (u : Nat) (x : Env) : (s.setEnv u x).cmdReady = s.cmdReady := rfl
@[simp] theorem State.setEnv_rspValid (u : Nat) (x : Env) : (s.setEnv u x).rspValid = s.rspValid := rfl
@[simp] theorem State.setEnv_rspR (u : Nat) (x : Env) : (s.setEnv u x).rspR = s.rspR := rfl
@[simp] theorem State.setEnv_rspWarn (u : Nat) (x : Env) : (s.setEnv u x).rspWarn = s.rspWarn := rfl
@[simp] theorem State.setEnv_irq (u : Nat) (x : Env) : (s.setEnv u x).irq = s.irq := rfl
@[simp] theorem State.setEnv_inbox (u : Nat) (x : Env) : (s.setEnv u x).inbox = s.inbox := rfl
@[simp] theorem State.setEnv_drawCount (u : Nat) (x : Env) : (s.setEnv u x).drawCount = s.drawCount := rfl
@[simp] theorem State.setEnv_dlAt (u : Nat) (x : Env) (v : Nat) : (s.setEnv u x).dlAt v = s.dlAt v := rfl
@[simp] theorem State.setEnv_opAt (u : Nat) (x : Env) (v : Nat) : (s.setEnv u x).opAt v = s.opAt v := rfl
@[simp] theorem State.setEnv_ozAt (u : Nat) (x : Env) (v : Nat) : (s.setEnv u x).ozAt v = s.ozAt v := rfl
@[simp] theorem State.setEnv_pzAt (u : Nat) (x : Env) (v : Nat) : (s.setEnv u x).pzAt v = s.pzAt v := rfl
@[simp] theorem State.setEnv_bqAt (u : Nat) (x : Env) (v : Nat) : (s.setEnv u x).bqAt v = s.bqAt v := rfl
@[simp] theorem State.setEnv_bowAt (u : Nat) (x : Env) (v : Nat) : (s.setEnv u x).bowAt v = s.bowAt v := rfl
@[simp] theorem State.setEnv_reedAt (u : Nat) (x : Env) (v : Nat) : (s.setEnv u x).reedAt v = s.reedAt v := rfl
@[simp] theorem State.setEnv_jetAt (u : Nat) (x : Env) (v : Nat) : (s.setEnv u x).jetAt v = s.jetAt v := rfl
@[simp] theorem State.setEnv_lipAt (u : Nat) (x : Env) (v : Nat) : (s.setEnv u x).lipAt v = s.lipAt v := rfl
@[simp] theorem State.setEnv_adsrAt (u : Nat) (x : Env) (v : Nat) : (s.setEnv u x).adsrAt v = s.adsrAt v := rfl
@[simp] theorem State.setEnv_nsAt (u : Nat) (x : Env) (v : Nat) : (s.setEnv u x).nsAt v = s.nsAt v := rfl
@[simp] theorem State.setEnv_oscAt (u : Nat) (x : Env) (v : Nat) : (s.setEnv u x).oscAt v = s.oscAt v := rfl

/-! `State.setAdsr` -/

@[simp] theorem State.setAdsr_fs (u : Nat) (x : Adsr) : (s.setAdsr u x).fs = s.fs := rfl
@[simp] theorem State.setAdsr_noise (u : Nat) (x : Adsr) : (s.setAdsr u x).noise = s.noise := rfl
@[simp] theorem State.setAdsr_cosine (u : Nat) (x : Adsr) : (s.setAdsr u x).cosine = s.cosine := rfl
@[simp] theorem State.setAdsr_dl (u : Nat) (x : Adsr) : (s.setAdsr u x).dl = s.dl := rfl
@[simp] theorem State.setAdsr_op (u : Nat) (x : Adsr) : (s.setAdsr u x).op = s.op := rfl
@[simp] theorem State.setAdsr_oz (u : Nat) (x : Adsr) : (s.setAdsr u x).oz = s.oz := rfl
@[simp] theorem State.setAdsr_pz (u : Nat) (x : Adsr) : (s.setAdsr u x).pz = s.pz := rfl
@[simp] theorem State.setAdsr_bq (u : Nat) (x : Adsr) : (s.setAdsr u x).bq = s.bq := rfl
@[simp] theorem State.setAdsr_bow (u : Nat) (x : Adsr) : (s.setAdsr u x).bow = s.bow := rfl
@[simp] theorem State.setAdsr_reed (u : Nat) (x : Adsr) : (s.setAdsr u x).reed = s.reed := rfl
@[simp] theorem State.setAdsr_jet (u : Nat) (x : Adsr) : (s.setAdsr u x).jet = s.jet := rfl
@[simp] theorem State.setAdsr_lip (u : Nat) (x : Adsr) : (s.setAdsr u x).lip = s.lip := rfl
@[simp] theorem State.setAdsr_env (u : Nat) (x : Adsr) : (s.setAdsr u x).env = s.env := rfl
@[simp] theorem State.setAdsr_adsr (u : Nat) (x : Adsr) : (s.setAdsr u x).adsr = s.adsr.set u x := rfl
@[simp] theorem State.setAdsr_ns (u : Nat) (x : Adsr) : (s.setAdsr u x).ns = s.ns := rfl
@[simp] theorem State.setAdsr_osc (u : Nat) (x : Adsr) : (s.setAdsr u x).osc = s.osc := rfl
@[simp] theorem State.setAdsr_voice (u : Nat) (x : Adsr) : (s.setAdsr u x).voice = s.voice := rfl
@[simp] theorem State.setAdsr_status (u : Nat) (x : Adsr) : (s.setAdsr u x).status = s.status := rfl
@[simp] theorem State.setAdsr_irqEn (u : Nat) (x : Adsr) : (s.setAdsr u x).irqEn = s.irqEn := rfl
@[simp] theorem State.setAdsr_lastWarn (u : Nat) (x : Adsr) : (s.setAdsr u x).lastWarn = s.lastWarn := rfl
@[simp] theorem State.setAdsr_tickCount (u : Nat) (x : Adsr) : (s.setAdsr u x).tickCount = s.tickCount := rfl
@[simp] theorem State.setAdsr_cmdReady (u : Nat) (x : Adsr) : (s.setAdsr u x).cmdReady = s.cmdReady := rfl
@[simp] theorem State.setAdsr_rspValid (u : Nat) (x : Adsr) : (s.setAdsr u x).rspValid = s.rspValid := rfl
@[simp] theorem State.setAdsr_rspR (u : Nat) (x : Adsr) : (s.setAdsr u x).rspR = s.rspR := rfl
@[simp] theorem State.setAdsr_rspWarn (u : Nat) (x : Adsr) : (s.setAdsr u x).rspWarn = s.rspWarn := rfl
@[simp] theorem State.setAdsr_irq (u : Nat) (x : Adsr) : (s.setAdsr u x).irq = s.irq := rfl
@[simp] theorem State.setAdsr_inbox (u : Nat) (x : Adsr) : (s.setAdsr u x).inbox = s.inbox := rfl
@[simp] theorem State.setAdsr_drawCount (u : Nat) (x : Adsr) : (s.setAdsr u x).drawCount = s.drawCount := rfl
@[simp] theorem State.setAdsr_dlAt (u : Nat) (x : Adsr) (v : Nat) : (s.setAdsr u x).dlAt v = s.dlAt v := rfl
@[simp] theorem State.setAdsr_opAt (u : Nat) (x : Adsr) (v : Nat) : (s.setAdsr u x).opAt v = s.opAt v := rfl
@[simp] theorem State.setAdsr_ozAt (u : Nat) (x : Adsr) (v : Nat) : (s.setAdsr u x).ozAt v = s.ozAt v := rfl
@[simp] theorem State.setAdsr_pzAt (u : Nat) (x : Adsr) (v : Nat) : (s.setAdsr u x).pzAt v = s.pzAt v := rfl
@[simp] theorem State.setAdsr_bqAt (u : Nat) (x : Adsr) (v : Nat) : (s.setAdsr u x).bqAt v = s.bqAt v := rfl
@[simp] theorem State.setAdsr_bowAt (u : Nat) (x : Adsr) (v : Nat) : (s.setAdsr u x).bowAt v = s.bowAt v := rfl
@[simp] theorem State.setAdsr_reedAt (u : Nat) (x : Adsr) (v : Nat) : (s.setAdsr u x).reedAt v = s.reedAt v := rfl
@[simp] theorem State.setAdsr_jetAt (u : Nat) (x : Adsr) (v : Nat) : (s.setAdsr u x).jetAt v = s.jetAt v := rfl
@[simp] theorem State.setAdsr_lipAt (u : Nat) (x : Adsr) (v : Nat) : (s.setAdsr u x).lipAt v = s.lipAt v := rfl
@[simp] theorem State.setAdsr_envAt (u : Nat) (x : Adsr) (v : Nat) : (s.setAdsr u x).envAt v = s.envAt v := rfl
@[simp] theorem State.setAdsr_nsAt (u : Nat) (x : Adsr) (v : Nat) : (s.setAdsr u x).nsAt v = s.nsAt v := rfl
@[simp] theorem State.setAdsr_oscAt (u : Nat) (x : Adsr) (v : Nat) : (s.setAdsr u x).oscAt v = s.oscAt v := rfl

/-! `State.setNs` -/

@[simp] theorem State.setNs_fs (u : Nat) (x : Noise) : (s.setNs u x).fs = s.fs := rfl
@[simp] theorem State.setNs_noise (u : Nat) (x : Noise) : (s.setNs u x).noise = s.noise := rfl
@[simp] theorem State.setNs_cosine (u : Nat) (x : Noise) : (s.setNs u x).cosine = s.cosine := rfl
@[simp] theorem State.setNs_dl (u : Nat) (x : Noise) : (s.setNs u x).dl = s.dl := rfl
@[simp] theorem State.setNs_op (u : Nat) (x : Noise) : (s.setNs u x).op = s.op := rfl
@[simp] theorem State.setNs_oz (u : Nat) (x : Noise) : (s.setNs u x).oz = s.oz := rfl
@[simp] theorem State.setNs_pz (u : Nat) (x : Noise) : (s.setNs u x).pz = s.pz := rfl
@[simp] theorem State.setNs_bq (u : Nat) (x : Noise) : (s.setNs u x).bq = s.bq := rfl
@[simp] theorem State.setNs_bow (u : Nat) (x : Noise) : (s.setNs u x).bow = s.bow := rfl
@[simp] theorem State.setNs_reed (u : Nat) (x : Noise) : (s.setNs u x).reed = s.reed := rfl
@[simp] theorem State.setNs_jet (u : Nat) (x : Noise) : (s.setNs u x).jet = s.jet := rfl
@[simp] theorem State.setNs_lip (u : Nat) (x : Noise) : (s.setNs u x).lip = s.lip := rfl
@[simp] theorem State.setNs_env (u : Nat) (x : Noise) : (s.setNs u x).env = s.env := rfl
@[simp] theorem State.setNs_adsr (u : Nat) (x : Noise) : (s.setNs u x).adsr = s.adsr := rfl
@[simp] theorem State.setNs_ns (u : Nat) (x : Noise) : (s.setNs u x).ns = s.ns.set u x := rfl
@[simp] theorem State.setNs_osc (u : Nat) (x : Noise) : (s.setNs u x).osc = s.osc := rfl
@[simp] theorem State.setNs_voice (u : Nat) (x : Noise) : (s.setNs u x).voice = s.voice := rfl
@[simp] theorem State.setNs_status (u : Nat) (x : Noise) : (s.setNs u x).status = s.status := rfl
@[simp] theorem State.setNs_irqEn (u : Nat) (x : Noise) : (s.setNs u x).irqEn = s.irqEn := rfl
@[simp] theorem State.setNs_lastWarn (u : Nat) (x : Noise) : (s.setNs u x).lastWarn = s.lastWarn := rfl
@[simp] theorem State.setNs_tickCount (u : Nat) (x : Noise) : (s.setNs u x).tickCount = s.tickCount := rfl
@[simp] theorem State.setNs_cmdReady (u : Nat) (x : Noise) : (s.setNs u x).cmdReady = s.cmdReady := rfl
@[simp] theorem State.setNs_rspValid (u : Nat) (x : Noise) : (s.setNs u x).rspValid = s.rspValid := rfl
@[simp] theorem State.setNs_rspR (u : Nat) (x : Noise) : (s.setNs u x).rspR = s.rspR := rfl
@[simp] theorem State.setNs_rspWarn (u : Nat) (x : Noise) : (s.setNs u x).rspWarn = s.rspWarn := rfl
@[simp] theorem State.setNs_irq (u : Nat) (x : Noise) : (s.setNs u x).irq = s.irq := rfl
@[simp] theorem State.setNs_inbox (u : Nat) (x : Noise) : (s.setNs u x).inbox = s.inbox := rfl
@[simp] theorem State.setNs_drawCount (u : Nat) (x : Noise) : (s.setNs u x).drawCount = s.drawCount := rfl
@[simp] theorem State.setNs_dlAt (u : Nat) (x : Noise) (v : Nat) : (s.setNs u x).dlAt v = s.dlAt v := rfl
@[simp] theorem State.setNs_opAt (u : Nat) (x : Noise) (v : Nat) : (s.setNs u x).opAt v = s.opAt v := rfl
@[simp] theorem State.setNs_ozAt (u : Nat) (x : Noise) (v : Nat) : (s.setNs u x).ozAt v = s.ozAt v := rfl
@[simp] theorem State.setNs_pzAt (u : Nat) (x : Noise) (v : Nat) : (s.setNs u x).pzAt v = s.pzAt v := rfl
@[simp] theorem State.setNs_bqAt (u : Nat) (x : Noise) (v : Nat) : (s.setNs u x).bqAt v = s.bqAt v := rfl
@[simp] theorem State.setNs_bowAt (u : Nat) (x : Noise) (v : Nat) : (s.setNs u x).bowAt v = s.bowAt v := rfl
@[simp] theorem State.setNs_reedAt (u : Nat) (x : Noise) (v : Nat) : (s.setNs u x).reedAt v = s.reedAt v := rfl
@[simp] theorem State.setNs_jetAt (u : Nat) (x : Noise) (v : Nat) : (s.setNs u x).jetAt v = s.jetAt v := rfl
@[simp] theorem State.setNs_lipAt (u : Nat) (x : Noise) (v : Nat) : (s.setNs u x).lipAt v = s.lipAt v := rfl
@[simp] theorem State.setNs_envAt (u : Nat) (x : Noise) (v : Nat) : (s.setNs u x).envAt v = s.envAt v := rfl
@[simp] theorem State.setNs_adsrAt (u : Nat) (x : Noise) (v : Nat) : (s.setNs u x).adsrAt v = s.adsrAt v := rfl
@[simp] theorem State.setNs_oscAt (u : Nat) (x : Noise) (v : Nat) : (s.setNs u x).oscAt v = s.oscAt v := rfl

/-! `State.setOsc` -/

@[simp] theorem State.setOsc_fs (u : Nat) (x : Osc) : (s.setOsc u x).fs = s.fs := rfl
@[simp] theorem State.setOsc_noise (u : Nat) (x : Osc) : (s.setOsc u x).noise = s.noise := rfl
@[simp] theorem State.setOsc_cosine (u : Nat) (x : Osc) : (s.setOsc u x).cosine = s.cosine := rfl
@[simp] theorem State.setOsc_dl (u : Nat) (x : Osc) : (s.setOsc u x).dl = s.dl := rfl
@[simp] theorem State.setOsc_op (u : Nat) (x : Osc) : (s.setOsc u x).op = s.op := rfl
@[simp] theorem State.setOsc_oz (u : Nat) (x : Osc) : (s.setOsc u x).oz = s.oz := rfl
@[simp] theorem State.setOsc_pz (u : Nat) (x : Osc) : (s.setOsc u x).pz = s.pz := rfl
@[simp] theorem State.setOsc_bq (u : Nat) (x : Osc) : (s.setOsc u x).bq = s.bq := rfl
@[simp] theorem State.setOsc_bow (u : Nat) (x : Osc) : (s.setOsc u x).bow = s.bow := rfl
@[simp] theorem State.setOsc_reed (u : Nat) (x : Osc) : (s.setOsc u x).reed = s.reed := rfl
@[simp] theorem State.setOsc_jet (u : Nat) (x : Osc) : (s.setOsc u x).jet = s.jet := rfl
@[simp] theorem State.setOsc_lip (u : Nat) (x : Osc) : (s.setOsc u x).lip = s.lip := rfl
@[simp] theorem State.setOsc_env (u : Nat) (x : Osc) : (s.setOsc u x).env = s.env := rfl
@[simp] theorem State.setOsc_adsr (u : Nat) (x : Osc) : (s.setOsc u x).adsr = s.adsr := rfl
@[simp] theorem State.setOsc_ns (u : Nat) (x : Osc) : (s.setOsc u x).ns = s.ns := rfl
@[simp] theorem State.setOsc_osc (u : Nat) (x : Osc) : (s.setOsc u x).osc = s.osc.set u x := rfl
@[simp] theorem State.setOsc_voice (u : Nat) (x : Osc) : (s.setOsc u x).voice = s.voice := rfl
@[simp] theorem State.setOsc_status (u : Nat) (x : Osc) : (s.setOsc u x).status = s.status := rfl
@[simp] theorem State.setOsc_irqEn (u : Nat) (x : Osc) : (s.setOsc u x).irqEn = s.irqEn := rfl
@[simp] theorem State.setOsc_lastWarn (u : Nat) (x : Osc) : (s.setOsc u x).lastWarn = s.lastWarn := rfl
@[simp] theorem State.setOsc_tickCount (u : Nat) (x : Osc) : (s.setOsc u x).tickCount = s.tickCount := rfl
@[simp] theorem State.setOsc_cmdReady (u : Nat) (x : Osc) : (s.setOsc u x).cmdReady = s.cmdReady := rfl
@[simp] theorem State.setOsc_rspValid (u : Nat) (x : Osc) : (s.setOsc u x).rspValid = s.rspValid := rfl
@[simp] theorem State.setOsc_rspR (u : Nat) (x : Osc) : (s.setOsc u x).rspR = s.rspR := rfl
@[simp] theorem State.setOsc_rspWarn (u : Nat) (x : Osc) : (s.setOsc u x).rspWarn = s.rspWarn := rfl
@[simp] theorem State.setOsc_irq (u : Nat) (x : Osc) : (s.setOsc u x).irq = s.irq := rfl
@[simp] theorem State.setOsc_inbox (u : Nat) (x : Osc) : (s.setOsc u x).inbox = s.inbox := rfl
@[simp] theorem State.setOsc_drawCount (u : Nat) (x : Osc) : (s.setOsc u x).drawCount = s.drawCount := rfl
@[simp] theorem State.setOsc_dlAt (u : Nat) (x : Osc) (v : Nat) : (s.setOsc u x).dlAt v = s.dlAt v := rfl
@[simp] theorem State.setOsc_opAt (u : Nat) (x : Osc) (v : Nat) : (s.setOsc u x).opAt v = s.opAt v := rfl
@[simp] theorem State.setOsc_ozAt (u : Nat) (x : Osc) (v : Nat) : (s.setOsc u x).ozAt v = s.ozAt v := rfl
@[simp] theorem State.setOsc_pzAt (u : Nat) (x : Osc) (v : Nat) : (s.setOsc u x).pzAt v = s.pzAt v := rfl
@[simp] theorem State.setOsc_bqAt (u : Nat) (x : Osc) (v : Nat) : (s.setOsc u x).bqAt v = s.bqAt v := rfl
@[simp] theorem State.setOsc_bowAt (u : Nat) (x : Osc) (v : Nat) : (s.setOsc u x).bowAt v = s.bowAt v := rfl
@[simp] theorem State.setOsc_reedAt (u : Nat) (x : Osc) (v : Nat) : (s.setOsc u x).reedAt v = s.reedAt v := rfl
@[simp] theorem State.setOsc_jetAt (u : Nat) (x : Osc) (v : Nat) : (s.setOsc u x).jetAt v = s.jetAt v := rfl
@[simp] theorem State.setOsc_lipAt (u : Nat) (x : Osc) (v : Nat) : (s.setOsc u x).lipAt v = s.lipAt v := rfl
@[simp] theorem State.setOsc_envAt (u : Nat) (x : Osc) (v : Nat) : (s.setOsc u x).envAt v = s.envAt v := rfl
@[simp] theorem State.setOsc_adsrAt (u : Nat) (x : Osc) (v : Nat) : (s.setOsc u x).adsrAt v = s.adsrAt v := rfl
@[simp] theorem State.setOsc_nsAt (u : Nat) (x : Osc) (v : Nat) : (s.setOsc u x).nsAt v = s.nsAt v := rfl

/-! `State.setVoice` -/

@[simp] theorem State.setVoice_fs (w : Voice) : (s.setVoice w).fs = s.fs := rfl
@[simp] theorem State.setVoice_noise (w : Voice) : (s.setVoice w).noise = s.noise := rfl
@[simp] theorem State.setVoice_cosine (w : Voice) : (s.setVoice w).cosine = s.cosine := rfl
@[simp] theorem State.setVoice_dl (w : Voice) : (s.setVoice w).dl = s.dl := rfl
@[simp] theorem State.setVoice_op (w : Voice) : (s.setVoice w).op = s.op := rfl
@[simp] theorem State.setVoice_oz (w : Voice) : (s.setVoice w).oz = s.oz := rfl
@[simp] theorem State.setVoice_pz (w : Voice) : (s.setVoice w).pz = s.pz := rfl
@[simp] theorem State.setVoice_bq (w : Voice) : (s.setVoice w).bq = s.bq := rfl
@[simp] theorem State.setVoice_bow (w : Voice) : (s.setVoice w).bow = s.bow := rfl
@[simp] theorem State.setVoice_reed (w : Voice) : (s.setVoice w).reed = s.reed := rfl
@[simp] theorem State.setVoice_jet (w : Voice) : (s.setVoice w).jet = s.jet := rfl
@[simp] theorem State.setVoice_lip (w : Voice) : (s.setVoice w).lip = s.lip := rfl
@[simp] theorem State.setVoice_env (w : Voice) : (s.setVoice w).env = s.env := rfl
@[simp] theorem State.setVoice_adsr (w : Voice) : (s.setVoice w).adsr = s.adsr := rfl
@[simp] theorem State.setVoice_ns (w : Voice) : (s.setVoice w).ns = s.ns := rfl
@[simp] theorem State.setVoice_osc (w : Voice) : (s.setVoice w).osc = s.osc := rfl
@[simp] theorem State.setVoice_voice (w : Voice) : (s.setVoice w).voice = w := rfl
@[simp] theorem State.setVoice_status (w : Voice) : (s.setVoice w).status = s.status := rfl
@[simp] theorem State.setVoice_irqEn (w : Voice) : (s.setVoice w).irqEn = s.irqEn := rfl
@[simp] theorem State.setVoice_lastWarn (w : Voice) : (s.setVoice w).lastWarn = s.lastWarn := rfl
@[simp] theorem State.setVoice_tickCount (w : Voice) : (s.setVoice w).tickCount = s.tickCount := rfl
@[simp] theorem State.setVoice_cmdReady (w : Voice) : (s.setVoice w).cmdReady = s.cmdReady := rfl
@[simp] theorem State.setVoice_rspValid (w : Voice) : (s.setVoice w).rspValid = s.rspValid := rfl
@[simp] theorem State.setVoice_rspR (w : Voice) : (s.setVoice w).rspR = s.rspR := rfl
@[simp] theorem State.setVoice_rspWarn (w : Voice) : (s.setVoice w).rspWarn = s.rspWarn := rfl
@[simp] theorem State.setVoice_irq (w : Voice) : (s.setVoice w).irq = s.irq := rfl
@[simp] theorem State.setVoice_inbox (w : Voice) : (s.setVoice w).inbox = s.inbox := rfl
@[simp] theorem State.setVoice_drawCount (w : Voice) : (s.setVoice w).drawCount = s.drawCount := rfl
@[simp] theorem State.setVoice_dlAt (w : Voice) (v : Nat) : (s.setVoice w).dlAt v = s.dlAt v := rfl
@[simp] theorem State.setVoice_opAt (w : Voice) (v : Nat) : (s.setVoice w).opAt v = s.opAt v := rfl
@[simp] theorem State.setVoice_ozAt (w : Voice) (v : Nat) : (s.setVoice w).ozAt v = s.ozAt v := rfl
@[simp] theorem State.setVoice_pzAt (w : Voice) (v : Nat) : (s.setVoice w).pzAt v = s.pzAt v := rfl
@[simp] theorem State.setVoice_bqAt (w : Voice) (v : Nat) : (s.setVoice w).bqAt v = s.bqAt v := rfl
@[simp] theorem State.setVoice_bowAt (w : Voice) (v : Nat) : (s.setVoice w).bowAt v = s.bowAt v := rfl
@[simp] theorem State.setVoice_reedAt (w : Voice) (v : Nat) : (s.setVoice w).reedAt v = s.reedAt v := rfl
@[simp] theorem State.setVoice_jetAt (w : Voice) (v : Nat) : (s.setVoice w).jetAt v = s.jetAt v := rfl
@[simp] theorem State.setVoice_lipAt (w : Voice) (v : Nat) : (s.setVoice w).lipAt v = s.lipAt v := rfl
@[simp] theorem State.setVoice_envAt (w : Voice) (v : Nat) : (s.setVoice w).envAt v = s.envAt v := rfl
@[simp] theorem State.setVoice_adsrAt (w : Voice) (v : Nat) : (s.setVoice w).adsrAt v = s.adsrAt v := rfl
@[simp] theorem State.setVoice_nsAt (w : Voice) (v : Nat) : (s.setVoice w).nsAt v = s.nsAt v := rfl
@[simp] theorem State.setVoice_oscAt (w : Voice) (v : Nat) : (s.setVoice w).oscAt v = s.oscAt v := rfl

/-! `answer` -/

@[simp] theorem answer_fs (w : Word) : (answer w s).fs = s.fs := rfl
@[simp] theorem answer_noise (w : Word) : (answer w s).noise = s.noise := rfl
@[simp] theorem answer_cosine (w : Word) : (answer w s).cosine = s.cosine := rfl
@[simp] theorem answer_dl (w : Word) : (answer w s).dl = s.dl := rfl
@[simp] theorem answer_op (w : Word) : (answer w s).op = s.op := rfl
@[simp] theorem answer_oz (w : Word) : (answer w s).oz = s.oz := rfl
@[simp] theorem answer_pz (w : Word) : (answer w s).pz = s.pz := rfl
@[simp] theorem answer_bq (w : Word) : (answer w s).bq = s.bq := rfl
@[simp] theorem answer_bow (w : Word) : (answer w s).bow = s.bow := rfl
@[simp] theorem answer_reed (w : Word) : (answer w s).reed = s.reed := rfl
@[simp] theorem answer_jet (w : Word) : (answer w s).jet = s.jet := rfl
@[simp] theorem answer_lip (w : Word) : (answer w s).lip = s.lip := rfl
@[simp] theorem answer_env (w : Word) : (answer w s).env = s.env := rfl
@[simp] theorem answer_adsr (w : Word) : (answer w s).adsr = s.adsr := rfl
@[simp] theorem answer_ns (w : Word) : (answer w s).ns = s.ns := rfl
@[simp] theorem answer_osc (w : Word) : (answer w s).osc = s.osc := rfl
@[simp] theorem answer_voice (w : Word) : (answer w s).voice = s.voice := rfl
@[simp] theorem answer_status (w : Word) : (answer w s).status = s.status := rfl
@[simp] theorem answer_irqEn (w : Word) : (answer w s).irqEn = s.irqEn := rfl
@[simp] theorem answer_lastWarn (w : Word) : (answer w s).lastWarn = s.lastWarn := rfl
@[simp] theorem answer_tickCount (w : Word) : (answer w s).tickCount = s.tickCount := rfl
@[simp] theorem answer_cmdReady (w : Word) : (answer w s).cmdReady = s.cmdReady := rfl
@[simp] theorem answer_rspValid (w : Word) : (answer w s).rspValid = s.rspValid := rfl
@[simp] theorem answer_rspR (w : Word) : (answer w s).rspR = w := rfl
@[simp] theorem answer_rspWarn (w : Word) : (answer w s).rspWarn = s.rspWarn := rfl
@[simp] theorem answer_irq (w : Word) : (answer w s).irq = s.irq := rfl
@[simp] theorem answer_inbox (w : Word) : (answer w s).inbox = s.inbox := rfl
@[simp] theorem answer_drawCount (w : Word) : (answer w s).drawCount = s.drawCount := rfl
@[simp] theorem answer_dlAt (w : Word) (v : Nat) : (answer w s).dlAt v = s.dlAt v := rfl
@[simp] theorem answer_opAt (w : Word) (v : Nat) : (answer w s).opAt v = s.opAt v := rfl
@[simp] theorem answer_ozAt (w : Word) (v : Nat) : (answer w s).ozAt v = s.ozAt v := rfl
@[simp] theorem answer_pzAt (w : Word) (v : Nat) : (answer w s).pzAt v = s.pzAt v := rfl
@[simp] theorem answer_bqAt (w : Word) (v : Nat) : (answer w s).bqAt v = s.bqAt v := rfl
@[simp] theorem answer_bowAt (w : Word) (v : Nat) : (answer w s).bowAt v = s.bowAt v := rfl
@[simp] theorem answer_reedAt (w : Word) (v : Nat) : (answer w s).reedAt v = s.reedAt v := rfl
@[simp] theorem answer_jetAt (w : Word) (v : Nat) : (answer w s).jetAt v = s.jetAt v := rfl
@[simp] theorem answer_lipAt (w : Word) (v : Nat) : (answer w s).lipAt v = s.lipAt v := rfl
@[simp] theorem answer_envAt (w : Word) (v : Nat) : (answer w s).envAt v = s.envAt v := rfl
@[simp] theorem answer_adsrAt (w : Word) (v : Nat) : (answer w s).adsrAt v = s.adsrAt v := rfl
@[simp] theorem answer_nsAt (w : Word) (v : Nat) : (answer w s).nsAt v = s.nsAt v := rfl
@[simp] theorem answer_oscAt (w : Word) (v : Nat) : (answer w s).oscAt v = s.oscAt v := rfl

/-! `raise` -/

@[simp] theorem raise_fs (w : Warning) : (raise w s).fs = s.fs := rfl
@[simp] theorem raise_noise (w : Warning) : (raise w s).noise = s.noise := rfl
@[simp] theorem raise_cosine (w : Warning) : (raise w s).cosine = s.cosine := rfl
@[simp] theorem raise_dl (w : Warning) : (raise w s).dl = s.dl := rfl
@[simp] theorem raise_op (w : Warning) : (raise w s).op = s.op := rfl
@[simp] theorem raise_oz (w : Warning) : (raise w s).oz = s.oz := rfl
@[simp] theorem raise_pz (w : Warning) : (raise w s).pz = s.pz := rfl
@[simp] theorem raise_bq (w : Warning) : (raise w s).bq = s.bq := rfl
@[simp] theorem raise_bow (w : Warning) : (raise w s).bow = s.bow := rfl
@[simp] theorem raise_reed (w : Warning) : (raise w s).reed = s.reed := rfl
@[simp] theorem raise_jet (w : Warning) : (raise w s).jet = s.jet := rfl
@[simp] theorem raise_lip (w : Warning) : (raise w s).lip = s.lip := rfl
@[simp] theorem raise_env (w : Warning) : (raise w s).env = s.env := rfl
@[simp] theorem raise_adsr (w : Warning) : (raise w s).adsr = s.adsr := rfl
@[simp] theorem raise_ns (w : Warning) : (raise w s).ns = s.ns := rfl
@[simp] theorem raise_osc (w : Warning) : (raise w s).osc = s.osc := rfl
@[simp] theorem raise_voice (w : Warning) : (raise w s).voice = s.voice := rfl
@[simp] theorem raise_status (w : Warning) : (raise w s).status = s.status ||| warnBit w := rfl
@[simp] theorem raise_irqEn (w : Warning) : (raise w s).irqEn = s.irqEn := rfl
@[simp] theorem raise_lastWarn (w : Warning) : (raise w s).lastWarn = BitVec.ofNat 4 (warnCode w) := rfl
@[simp] theorem raise_tickCount (w : Warning) : (raise w s).tickCount = s.tickCount := rfl
@[simp] theorem raise_cmdReady (w : Warning) : (raise w s).cmdReady = s.cmdReady := rfl
@[simp] theorem raise_rspValid (w : Warning) : (raise w s).rspValid = s.rspValid := rfl
@[simp] theorem raise_rspR (w : Warning) : (raise w s).rspR = s.rspR := rfl
@[simp] theorem raise_rspWarn (w : Warning) : (raise w s).rspWarn = s.rspWarn ||| warnBit w := rfl
@[simp] theorem raise_irq (w : Warning) : (raise w s).irq = s.irq := rfl
@[simp] theorem raise_inbox (w : Warning) : (raise w s).inbox = s.inbox := rfl
@[simp] theorem raise_drawCount (w : Warning) : (raise w s).drawCount = s.drawCount := rfl
@[simp] theorem raise_dlAt (w : Warning) (v : Nat) : (raise w s).dlAt v = s.dlAt v := rfl
@[simp] theorem raise_opAt (w : Warning) (v : Nat) : (raise w s).opAt v = s.opAt v := rfl
@[simp] theorem raise_ozAt (w : Warning) (v : Nat) : (raise w s).ozAt v = s.ozAt v := rfl
@[simp] theorem raise_pzAt (w : Warning) (v : Nat) : (raise w s).pzAt v = s.pzAt v := rfl
@[simp] theorem raise_bqAt (w : Warning) (v : Nat) : (raise w s).bqAt v = s.bqAt v := rfl
@[simp] theorem raise_bowAt (w : Warning) (v : Nat) : (raise w s).bowAt v = s.bowAt v := rfl
@[simp] theorem raise_reedAt (w : Warning) (v : Nat) : (raise w s).reedAt v = s.reedAt v := rfl
@[simp] theorem raise_jetAt (w : Warning) (v : Nat) : (raise w s).jetAt v = s.jetAt v := rfl
@[simp] theorem raise_lipAt (w : Warning) (v : Nat) : (raise w s).lipAt v = s.lipAt v := rfl
@[simp] theorem raise_envAt (w : Warning) (v : Nat) : (raise w s).envAt v = s.envAt v := rfl
@[simp] theorem raise_adsrAt (w : Warning) (v : Nat) : (raise w s).adsrAt v = s.adsrAt v := rfl
@[simp] theorem raise_nsAt (w : Warning) (v : Nat) : (raise w s).nsAt v = s.nsAt v := rfl
@[simp] theorem raise_oscAt (w : Warning) (v : Nat) : (raise w s).oscAt v = s.oscAt v := rfl

/-! `startCommand` -/

@[simp] theorem startCommand_fs : (startCommand s).fs = s.fs := rfl
@[simp] theorem startCommand_noise : (startCommand s).noise = s.noise := rfl
@[simp] theorem startCommand_cosine : (startCommand s).cosine = s.cosine := rfl
@[simp] theorem startCommand_dl : (startCommand s).dl = s.dl := rfl
@[simp] theorem startCommand_op : (startCommand s).op = s.op := rfl
@[simp] theorem startCommand_oz : (startCommand s).oz = s.oz := rfl
@[simp] theorem startCommand_pz : (startCommand s).pz = s.pz := rfl
@[simp] theorem startCommand_bq : (startCommand s).bq = s.bq := rfl
@[simp] theorem startCommand_bow : (startCommand s).bow = s.bow := rfl
@[simp] theorem startCommand_reed : (startCommand s).reed = s.reed := rfl
@[simp] theorem startCommand_jet : (startCommand s).jet = s.jet := rfl
@[simp] theorem startCommand_lip : (startCommand s).lip = s.lip := rfl
@[simp] theorem startCommand_env : (startCommand s).env = s.env := rfl
@[simp] theorem startCommand_adsr : (startCommand s).adsr = s.adsr := rfl
@[simp] theorem startCommand_ns : (startCommand s).ns = s.ns := rfl
@[simp] theorem startCommand_osc : (startCommand s).osc = s.osc := rfl
@[simp] theorem startCommand_voice : (startCommand s).voice = s.voice := rfl
@[simp] theorem startCommand_status : (startCommand s).status = s.status := rfl
@[simp] theorem startCommand_irqEn : (startCommand s).irqEn = s.irqEn := rfl
@[simp] theorem startCommand_lastWarn : (startCommand s).lastWarn = s.lastWarn := rfl
@[simp] theorem startCommand_tickCount : (startCommand s).tickCount = s.tickCount := rfl
@[simp] theorem startCommand_cmdReady : (startCommand s).cmdReady = s.cmdReady := rfl
@[simp] theorem startCommand_rspValid : (startCommand s).rspValid = s.rspValid := rfl
@[simp] theorem startCommand_rspR : (startCommand s).rspR = 0#32 := rfl
@[simp] theorem startCommand_rspWarn : (startCommand s).rspWarn = 0#8 := rfl
@[simp] theorem startCommand_irq : (startCommand s).irq = s.irq := rfl
@[simp] theorem startCommand_inbox : (startCommand s).inbox = s.inbox := rfl
@[simp] theorem startCommand_drawCount : (startCommand s).drawCount = s.drawCount := rfl
@[simp] theorem startCommand_dlAt (v : Nat) : (startCommand s).dlAt v = s.dlAt v := rfl
@[simp] theorem startCommand_opAt (v : Nat) : (startCommand s).opAt v = s.opAt v := rfl
@[simp] theorem startCommand_ozAt (v : Nat) : (startCommand s).ozAt v = s.ozAt v := rfl
@[simp] theorem startCommand_pzAt (v : Nat) : (startCommand s).pzAt v = s.pzAt v := rfl
@[simp] theorem startCommand_bqAt (v : Nat) : (startCommand s).bqAt v = s.bqAt v := rfl
@[simp] theorem startCommand_bowAt (v : Nat) : (startCommand s).bowAt v = s.bowAt v := rfl
@[simp] theorem startCommand_reedAt (v : Nat) : (startCommand s).reedAt v = s.reedAt v := rfl
@[simp] theorem startCommand_jetAt (v : Nat) : (startCommand s).jetAt v = s.jetAt v := rfl
@[simp] theorem startCommand_lipAt (v : Nat) : (startCommand s).lipAt v = s.lipAt v := rfl
@[simp] theorem startCommand_envAt (v : Nat) : (startCommand s).envAt v = s.envAt v := rfl
@[simp] theorem startCommand_adsrAt (v : Nat) : (startCommand s).adsrAt v = s.adsrAt v := rfl
@[simp] theorem startCommand_nsAt (v : Nat) : (startCommand s).nsAt v = s.nsAt v := rfl
@[simp] theorem startCommand_oscAt (v : Nat) : (startCommand s).oscAt v = s.oscAt v := rfl

/-! `endCommand` -/

@[simp] theorem endCommand_fs : (endCommand s).fs = s.fs := rfl
@[simp] theorem endCommand_noise : (endCommand s).noise = s.noise := rfl
@[simp] theorem endCommand_cosine : (endCommand s).cosine = s.cosine := rfl
@[simp] theorem endCommand_dl : (endCommand s).dl = s.dl := rfl
@[simp] theorem endCommand_op : (endCommand s).op = s.op := rfl
@[simp] theorem endCommand_oz : (endCommand s).oz = s.oz := rfl
@[simp] theorem endCommand_pz : (endCommand s).pz = s.pz := rfl
@[simp] theorem endCommand_bq : (endCommand s).bq = s.bq := rfl
@[simp] theorem endCommand_bow : (endCommand s).bow = s.bow := rfl
@[simp] theorem endCommand_reed : (endCommand s).reed = s.reed := rfl
@[simp] theorem endCommand_jet : (endCommand s).jet = s.jet := rfl
@[simp] theorem endCommand_lip : (endCommand s).lip = s.lip := rfl
@[simp] theorem endCommand_env : (endCommand s).env = s.env := rfl
@[simp] theorem endCommand_adsr : (endCommand s).adsr = s.adsr := rfl
@[simp] theorem endCommand_ns : (endCommand s).ns = s.ns := rfl
@[simp] theorem endCommand_osc : (endCommand s).osc = s.osc := rfl
@[simp] theorem endCommand_voice : (endCommand s).voice = s.voice := rfl
@[simp] theorem endCommand_status : (endCommand s).status = s.status := rfl
@[simp] theorem endCommand_irqEn : (endCommand s).irqEn = s.irqEn := rfl
@[simp] theorem endCommand_lastWarn : (endCommand s).lastWarn = s.lastWarn := rfl
@[simp] theorem endCommand_tickCount : (endCommand s).tickCount = s.tickCount := rfl
@[simp] theorem endCommand_cmdReady : (endCommand s).cmdReady = false := rfl
@[simp] theorem endCommand_rspValid : (endCommand s).rspValid = true := rfl
@[simp] theorem endCommand_rspR : (endCommand s).rspR = s.rspR := rfl
@[simp] theorem endCommand_rspWarn : (endCommand s).rspWarn = s.rspWarn := rfl
@[simp] theorem endCommand_irq : (endCommand s).irq = irqLine s.status s.irqEn := rfl
@[simp] theorem endCommand_inbox : (endCommand s).inbox = s.inbox := rfl
@[simp] theorem endCommand_drawCount : (endCommand s).drawCount = s.drawCount := rfl
@[simp] theorem endCommand_dlAt (v : Nat) : (endCommand s).dlAt v = s.dlAt v := rfl
@[simp] theorem endCommand_opAt (v : Nat) : (endCommand s).opAt v = s.opAt v := rfl
@[simp] theorem endCommand_ozAt (v : Nat) : (endCommand s).ozAt v = s.ozAt v := rfl
@[simp] theorem endCommand_pzAt (v : Nat) : (endCommand s).pzAt v = s.pzAt v := rfl
@[simp] theorem endCommand_bqAt (v : Nat) : (endCommand s).bqAt v = s.bqAt v := rfl
@[simp] theorem endCommand_bowAt (v : Nat) : (endCommand s).bowAt v = s.bowAt v := rfl
@[simp] theorem endCommand_reedAt (v : Nat) : (endCommand s).reedAt v = s.reedAt v := rfl
@[simp] theorem endCommand_jetAt (v : Nat) : (endCommand s).jetAt v = s.jetAt v := rfl
@[simp] theorem endCommand_lipAt (v : Nat) : (endCommand s).lipAt v = s.lipAt v := rfl
@[simp] theorem endCommand_envAt (v : Nat) : (endCommand s).envAt v = s.envAt v := rfl
@[simp] theorem endCommand_adsrAt (v : Nat) : (endCommand s).adsrAt v = s.adsrAt v := rfl
@[simp] theorem endCommand_nsAt (v : Nat) : (endCommand s).nsAt v = s.nsAt v := rfl
@[simp] theorem endCommand_oscAt (v : Nat) : (endCommand s).oscAt v = s.oscAt v := rfl

/-! `idleCycle` -/

@[simp] theorem idleCycle_fs : (idleCycle s).fs = s.fs := rfl
@[simp] theorem idleCycle_noise : (idleCycle s).noise = s.noise := rfl
@[simp] theorem idleCycle_cosine : (idleCycle s).cosine = s.cosine := rfl
@[simp] theorem idleCycle_dl : (idleCycle s).dl = s.dl := rfl
@[simp] theorem idleCycle_op : (idleCycle s).op = s.op := rfl
@[simp] theorem idleCycle_oz : (idleCycle s).oz = s.oz := rfl
@[simp] theorem idleCycle_pz : (idleCycle s).pz = s.pz := rfl
@[simp] theorem idleCycle_bq : (idleCycle s).bq = s.bq := rfl
@[simp] theorem idleCycle_bow : (idleCycle s).bow = s.bow := rfl
@[simp] theorem idleCycle_reed : (idleCycle s).reed = s.reed := rfl
@[simp] theorem idleCycle_jet : (idleCycle s).jet = s.jet := rfl
@[simp] theorem idleCycle_lip : (idleCycle s).lip = s.lip := rfl
@[simp] theorem idleCycle_env : (idleCycle s).env = s.env := rfl
@[simp] theorem idleCycle_adsr : (idleCycle s).adsr = s.adsr := rfl
@[simp] theorem idleCycle_ns : (idleCycle s).ns = s.ns := rfl
@[simp] theorem idleCycle_osc : (idleCycle s).osc = s.osc := rfl
@[simp] theorem idleCycle_voice : (idleCycle s).voice = s.voice := rfl
@[simp] theorem idleCycle_status : (idleCycle s).status = s.status := rfl
@[simp] theorem idleCycle_irqEn : (idleCycle s).irqEn = s.irqEn := rfl
@[simp] theorem idleCycle_lastWarn : (idleCycle s).lastWarn = s.lastWarn := rfl
@[simp] theorem idleCycle_tickCount : (idleCycle s).tickCount = s.tickCount := rfl
@[simp] theorem idleCycle_cmdReady : (idleCycle s).cmdReady = true := rfl
@[simp] theorem idleCycle_rspValid : (idleCycle s).rspValid = false := rfl
@[simp] theorem idleCycle_rspR : (idleCycle s).rspR = s.rspR := rfl
@[simp] theorem idleCycle_rspWarn : (idleCycle s).rspWarn = s.rspWarn := rfl
@[simp] theorem idleCycle_irq : (idleCycle s).irq = s.irq := rfl
@[simp] theorem idleCycle_inbox : (idleCycle s).inbox = s.inbox := rfl
@[simp] theorem idleCycle_drawCount : (idleCycle s).drawCount = s.drawCount := rfl
@[simp] theorem idleCycle_dlAt (v : Nat) : (idleCycle s).dlAt v = s.dlAt v := rfl
@[simp] theorem idleCycle_opAt (v : Nat) : (idleCycle s).opAt v = s.opAt v := rfl
@[simp] theorem idleCycle_ozAt (v : Nat) : (idleCycle s).ozAt v = s.ozAt v := rfl
@[simp] theorem idleCycle_pzAt (v : Nat) : (idleCycle s).pzAt v = s.pzAt v := rfl
@[simp] theorem idleCycle_bqAt (v : Nat) : (idleCycle s).bqAt v = s.bqAt v := rfl
@[simp] theorem idleCycle_bowAt (v : Nat) : (idleCycle s).bowAt v = s.bowAt v := rfl
@[simp] theorem idleCycle_reedAt (v : Nat) : (idleCycle s).reedAt v = s.reedAt v := rfl
@[simp] theorem idleCycle_jetAt (v : Nat) : (idleCycle s).jetAt v = s.jetAt v := rfl
@[simp] theorem idleCycle_lipAt (v : Nat) : (idleCycle s).lipAt v = s.lipAt v := rfl
@[simp] theorem idleCycle_envAt (v : Nat) : (idleCycle s).envAt v = s.envAt v := rfl
@[simp] theorem idleCycle_adsrAt (v : Nat) : (idleCycle s).adsrAt v = s.adsrAt v := rfl
@[simp] theorem idleCycle_nsAt (v : Nat) : (idleCycle s).nsAt v = s.nsAt v := rfl
@[simp] theorem idleCycle_oscAt (v : Nat) : (idleCycle s).oscAt v = s.oscAt v := rfl

/-! `respond` -/

@[simp] theorem respond_fs (r : Word) (ws : List Warning) : (respond r ws s).fs = s.fs := rfl
@[simp] theorem respond_noise (r : Word) (ws : List Warning) : (respond r ws s).noise = s.noise := rfl
@[simp] theorem respond_cosine (r : Word) (ws : List Warning) : (respond r ws s).cosine = s.cosine := rfl
@[simp] theorem respond_dl (r : Word) (ws : List Warning) : (respond r ws s).dl = s.dl := rfl
@[simp] theorem respond_op (r : Word) (ws : List Warning) : (respond r ws s).op = s.op := rfl
@[simp] theorem respond_oz (r : Word) (ws : List Warning) : (respond r ws s).oz = s.oz := rfl
@[simp] theorem respond_pz (r : Word) (ws : List Warning) : (respond r ws s).pz = s.pz := rfl
@[simp] theorem respond_bq (r : Word) (ws : List Warning) : (respond r ws s).bq = s.bq := rfl
@[simp] theorem respond_bow (r : Word) (ws : List Warning) : (respond r ws s).bow = s.bow := rfl
@[simp] theorem respond_reed (r : Word) (ws : List Warning) : (respond r ws s).reed = s.reed := rfl
@[simp] theorem respond_jet (r : Word) (ws : List Warning) : (respond r ws s).jet = s.jet := rfl
@[simp] theorem respond_lip (r : Word) (ws : List Warning) : (respond r ws s).lip = s.lip := rfl
@[simp] theorem respond_env (r : Word) (ws : List Warning) : (respond r ws s).env = s.env := rfl
@[simp] theorem respond_adsr (r : Word) (ws : List Warning) : (respond r ws s).adsr = s.adsr := rfl
@[simp] theorem respond_ns (r : Word) (ws : List Warning) : (respond r ws s).ns = s.ns := rfl
@[simp] theorem respond_osc (r : Word) (ws : List Warning) : (respond r ws s).osc = s.osc := rfl
@[simp] theorem respond_voice (r : Word) (ws : List Warning) : (respond r ws s).voice = s.voice := rfl
@[simp] theorem respond_status (r : Word) (ws : List Warning) : (respond r ws s).status = s.status ||| warnMask ws := rfl
@[simp] theorem respond_irqEn (r : Word) (ws : List Warning) : (respond r ws s).irqEn = s.irqEn := rfl
@[simp] theorem respond_lastWarn (r : Word) (ws : List Warning) : (respond r ws s).lastWarn = lastCode s.lastWarn ws := rfl
@[simp] theorem respond_tickCount (r : Word) (ws : List Warning) : (respond r ws s).tickCount = s.tickCount := rfl
@[simp] theorem respond_cmdReady (r : Word) (ws : List Warning) : (respond r ws s).cmdReady = false := rfl
@[simp] theorem respond_rspValid (r : Word) (ws : List Warning) : (respond r ws s).rspValid = true := rfl
@[simp] theorem respond_rspR (r : Word) (ws : List Warning) : (respond r ws s).rspR = r := rfl
@[simp] theorem respond_rspWarn (r : Word) (ws : List Warning) : (respond r ws s).rspWarn = warnMask ws := rfl
@[simp] theorem respond_irq (r : Word) (ws : List Warning) : (respond r ws s).irq = irqLine (s.status ||| warnMask ws) s.irqEn := rfl
@[simp] theorem respond_inbox (r : Word) (ws : List Warning) : (respond r ws s).inbox = s.inbox := rfl
@[simp] theorem respond_drawCount (r : Word) (ws : List Warning) : (respond r ws s).drawCount = s.drawCount := rfl
@[simp] theorem respond_dlAt (r : Word) (ws : List Warning) (v : Nat) : (respond r ws s).dlAt v = s.dlAt v := rfl
@[simp] theorem respond_opAt (r : Word) (ws : List Warning) (v : Nat) : (respond r ws s).opAt v = s.opAt v := rfl
@[simp] theorem respond_ozAt (r : Word) (ws : List Warning) (v : Nat) : (respond r ws s).ozAt v = s.ozAt v := rfl
@[simp] theorem respond_pzAt (r : Word) (ws : List Warning) (v : Nat) : (respond r ws s).pzAt v = s.pzAt v := rfl
@[simp] theorem respond_bqAt (r : Word) (ws : List Warning) (v : Nat) : (respond r ws s).bqAt v = s.bqAt v := rfl
@[simp] theorem respond_bowAt (r : Word) (ws : List Warning) (v : Nat) : (respond r ws s).bowAt v = s.bowAt v := rfl
@[simp] theorem respond_reedAt (r : Word) (ws : List Warning) (v : Nat) : (respond r ws s).reedAt v = s.reedAt v := rfl
@[simp] theorem respond_jetAt (r : Word) (ws : List Warning) (v : Nat) : (respond r ws s).jetAt v = s.jetAt v := rfl
@[simp] theorem respond_lipAt (r : Word) (ws : List Warning) (v : Nat) : (respond r ws s).lipAt v = s.lipAt v := rfl
@[simp] theorem respond_envAt (r : Word) (ws : List Warning) (v : Nat) : (respond r ws s).envAt v = s.envAt v := rfl
@[simp] theorem respond_adsrAt (r : Word) (ws : List Warning) (v : Nat) : (respond r ws s).adsrAt v = s.adsrAt v := rfl
@[simp] theorem respond_nsAt (r : Word) (ws : List Warning) (v : Nat) : (respond r ws s).nsAt v = s.nsAt v := rfl
@[simp] theorem respond_oscAt (r : Word) (ws : List Warning) (v : Nat) : (respond r ws s).oscAt v = s.oscAt v := rfl

/-! A unit read after a write to its own class. -/

theorem State.dlAt_setDl (u v : Nat) (x : DelayLine) :
    (s.setDl u x).dlAt v = if u = v ∧ u < s.dl.length then x else s.dlAt v := by
  unfold State.dlAt State.setDl
  by_cases h : u = v
  · subst h; by_cases hl : u < s.dl.length <;> simp [List.getD_eq_getElem?_getD, hl]
  · simp [List.getD_eq_getElem?_getD, h]

@[simp] theorem State.dlAt_setDl_self (u : Nat) (x : DelayLine) (h : u < s.dl.length) :
    (s.setDl u x).dlAt u = x := by simp [State.dlAt_setDl, h]

theorem State.dlAt_eq (u : Nat) (h : u < s.dl.length) : s.dlAt u = s.dl[u] := by
  simp [State.dlAt, List.getD_eq_getElem?_getD, h]

theorem State.opAt_setOp (u v : Nat) (x : OnePole) :
    (s.setOp u x).opAt v = if u = v ∧ u < s.op.length then x else s.opAt v := by
  unfold State.opAt State.setOp
  by_cases h : u = v
  · subst h; by_cases hl : u < s.op.length <;> simp [List.getD_eq_getElem?_getD, hl]
  · simp [List.getD_eq_getElem?_getD, h]

@[simp] theorem State.opAt_setOp_self (u : Nat) (x : OnePole) (h : u < s.op.length) :
    (s.setOp u x).opAt u = x := by simp [State.opAt_setOp, h]

theorem State.opAt_eq (u : Nat) (h : u < s.op.length) : s.opAt u = s.op[u] := by
  simp [State.opAt, List.getD_eq_getElem?_getD, h]

theorem State.ozAt_setOz (u v : Nat) (x : OneZero) :
    (s.setOz u x).ozAt v = if u = v ∧ u < s.oz.length then x else s.ozAt v := by
  unfold State.ozAt State.setOz
  by_cases h : u = v
  · subst h; by_cases hl : u < s.oz.length <;> simp [List.getD_eq_getElem?_getD, hl]
  · simp [List.getD_eq_getElem?_getD, h]

@[simp] theorem State.ozAt_setOz_self (u : Nat) (x : OneZero) (h : u < s.oz.length) :
    (s.setOz u x).ozAt u = x := by simp [State.ozAt_setOz, h]

theorem State.ozAt_eq (u : Nat) (h : u < s.oz.length) : s.ozAt u = s.oz[u] := by
  simp [State.ozAt, List.getD_eq_getElem?_getD, h]

theorem State.pzAt_setPz (u v : Nat) (x : PoleZero) :
    (s.setPz u x).pzAt v = if u = v ∧ u < s.pz.length then x else s.pzAt v := by
  unfold State.pzAt State.setPz
  by_cases h : u = v
  · subst h; by_cases hl : u < s.pz.length <;> simp [List.getD_eq_getElem?_getD, hl]
  · simp [List.getD_eq_getElem?_getD, h]

@[simp] theorem State.pzAt_setPz_self (u : Nat) (x : PoleZero) (h : u < s.pz.length) :
    (s.setPz u x).pzAt u = x := by simp [State.pzAt_setPz, h]

theorem State.pzAt_eq (u : Nat) (h : u < s.pz.length) : s.pzAt u = s.pz[u] := by
  simp [State.pzAt, List.getD_eq_getElem?_getD, h]

theorem State.bqAt_setBq (u v : Nat) (x : Biquad) :
    (s.setBq u x).bqAt v = if u = v ∧ u < s.bq.length then x else s.bqAt v := by
  unfold State.bqAt State.setBq
  by_cases h : u = v
  · subst h; by_cases hl : u < s.bq.length <;> simp [List.getD_eq_getElem?_getD, hl]
  · simp [List.getD_eq_getElem?_getD, h]

@[simp] theorem State.bqAt_setBq_self (u : Nat) (x : Biquad) (h : u < s.bq.length) :
    (s.setBq u x).bqAt u = x := by simp [State.bqAt_setBq, h]

theorem State.bqAt_eq (u : Nat) (h : u < s.bq.length) : s.bqAt u = s.bq[u] := by
  simp [State.bqAt, List.getD_eq_getElem?_getD, h]

theorem State.bowAt_setBow (u v : Nat) (x : Bow) :
    (s.setBow u x).bowAt v = if u = v ∧ u < s.bow.length then x else s.bowAt v := by
  unfold State.bowAt State.setBow
  by_cases h : u = v
  · subst h; by_cases hl : u < s.bow.length <;> simp [List.getD_eq_getElem?_getD, hl]
  · simp [List.getD_eq_getElem?_getD, h]

@[simp] theorem State.bowAt_setBow_self (u : Nat) (x : Bow) (h : u < s.bow.length) :
    (s.setBow u x).bowAt u = x := by simp [State.bowAt_setBow, h]

theorem State.bowAt_eq (u : Nat) (h : u < s.bow.length) : s.bowAt u = s.bow[u] := by
  simp [State.bowAt, List.getD_eq_getElem?_getD, h]

theorem State.reedAt_setReed (u v : Nat) (x : Reed) :
    (s.setReed u x).reedAt v = if u = v ∧ u < s.reed.length then x else s.reedAt v := by
  unfold State.reedAt State.setReed
  by_cases h : u = v
  · subst h; by_cases hl : u < s.reed.length <;> simp [List.getD_eq_getElem?_getD, hl]
  · simp [List.getD_eq_getElem?_getD, h]

@[simp] theorem State.reedAt_setReed_self (u : Nat) (x : Reed) (h : u < s.reed.length) :
    (s.setReed u x).reedAt u = x := by simp [State.reedAt_setReed, h]

theorem State.reedAt_eq (u : Nat) (h : u < s.reed.length) : s.reedAt u = s.reed[u] := by
  simp [State.reedAt, List.getD_eq_getElem?_getD, h]

theorem State.jetAt_setJet (u v : Nat) (x : Jet) :
    (s.setJet u x).jetAt v = if u = v ∧ u < s.jet.length then x else s.jetAt v := by
  unfold State.jetAt State.setJet
  by_cases h : u = v
  · subst h; by_cases hl : u < s.jet.length <;> simp [List.getD_eq_getElem?_getD, hl]
  · simp [List.getD_eq_getElem?_getD, h]

@[simp] theorem State.jetAt_setJet_self (u : Nat) (x : Jet) (h : u < s.jet.length) :
    (s.setJet u x).jetAt u = x := by simp [State.jetAt_setJet, h]

theorem State.jetAt_eq (u : Nat) (h : u < s.jet.length) : s.jetAt u = s.jet[u] := by
  simp [State.jetAt, List.getD_eq_getElem?_getD, h]

theorem State.lipAt_setLip (u v : Nat) (x : Lip) :
    (s.setLip u x).lipAt v = if u = v ∧ u < s.lip.length then x else s.lipAt v := by
  unfold State.lipAt State.setLip
  by_cases h : u = v
  · subst h; by_cases hl : u < s.lip.length <;> simp [List.getD_eq_getElem?_getD, hl]
  · simp [List.getD_eq_getElem?_getD, h]

@[simp] theorem State.lipAt_setLip_self (u : Nat) (x : Lip) (h : u < s.lip.length) :
    (s.setLip u x).lipAt u = x := by simp [State.lipAt_setLip, h]

theorem State.lipAt_eq (u : Nat) (h : u < s.lip.length) : s.lipAt u = s.lip[u] := by
  simp [State.lipAt, List.getD_eq_getElem?_getD, h]

theorem State.envAt_setEnv (u v : Nat) (x : Env) :
    (s.setEnv u x).envAt v = if u = v ∧ u < s.env.length then x else s.envAt v := by
  unfold State.envAt State.setEnv
  by_cases h : u = v
  · subst h; by_cases hl : u < s.env.length <;> simp [List.getD_eq_getElem?_getD, hl]
  · simp [List.getD_eq_getElem?_getD, h]

@[simp] theorem State.envAt_setEnv_self (u : Nat) (x : Env) (h : u < s.env.length) :
    (s.setEnv u x).envAt u = x := by simp [State.envAt_setEnv, h]

theorem State.envAt_eq (u : Nat) (h : u < s.env.length) : s.envAt u = s.env[u] := by
  simp [State.envAt, List.getD_eq_getElem?_getD, h]

theorem State.adsrAt_setAdsr (u v : Nat) (x : Adsr) :
    (s.setAdsr u x).adsrAt v = if u = v ∧ u < s.adsr.length then x else s.adsrAt v := by
  unfold State.adsrAt State.setAdsr
  by_cases h : u = v
  · subst h; by_cases hl : u < s.adsr.length <;> simp [List.getD_eq_getElem?_getD, hl]
  · simp [List.getD_eq_getElem?_getD, h]

@[simp] theorem State.adsrAt_setAdsr_self (u : Nat) (x : Adsr) (h : u < s.adsr.length) :
    (s.setAdsr u x).adsrAt u = x := by simp [State.adsrAt_setAdsr, h]

theorem State.adsrAt_eq (u : Nat) (h : u < s.adsr.length) : s.adsrAt u = s.adsr[u] := by
  simp [State.adsrAt, List.getD_eq_getElem?_getD, h]

theorem State.nsAt_setNs (u v : Nat) (x : Noise) :
    (s.setNs u x).nsAt v = if u = v ∧ u < s.ns.length then x else s.nsAt v := by
  unfold State.nsAt State.setNs
  by_cases h : u = v
  · subst h; by_cases hl : u < s.ns.length <;> simp [List.getD_eq_getElem?_getD, hl]
  · simp [List.getD_eq_getElem?_getD, h]

@[simp] theorem State.nsAt_setNs_self (u : Nat) (x : Noise) (h : u < s.ns.length) :
    (s.setNs u x).nsAt u = x := by simp [State.nsAt_setNs, h]

theorem State.nsAt_eq (u : Nat) (h : u < s.ns.length) : s.nsAt u = s.ns[u] := by
  simp [State.nsAt, List.getD_eq_getElem?_getD, h]

theorem State.oscAt_setOsc (u v : Nat) (x : Osc) :
    (s.setOsc u x).oscAt v = if u = v ∧ u < s.osc.length then x else s.oscAt v := by
  unfold State.oscAt State.setOsc
  by_cases h : u = v
  · subst h; by_cases hl : u < s.osc.length <;> simp [List.getD_eq_getElem?_getD, hl]
  · simp [List.getD_eq_getElem?_getD, h]

@[simp] theorem State.oscAt_setOsc_self (u : Nat) (x : Osc) (h : u < s.osc.length) :
    (s.setOsc u x).oscAt u = x := by simp [State.oscAt_setOsc, h]

theorem State.oscAt_eq (u : Nat) (h : u < s.osc.length) : s.oscAt u = s.osc[u] := by
  simp [State.oscAt, List.getD_eq_getElem?_getD, h]


/-! The start of a command moved outward past the updates of its rule. -/

@[simp] theorem startCommand_setDl (u : Nat) (x : DelayLine) :
    (startCommand s).setDl u x = startCommand (s.setDl u x) := rfl
@[simp] theorem startCommand_setOp (u : Nat) (x : OnePole) :
    (startCommand s).setOp u x = startCommand (s.setOp u x) := rfl
@[simp] theorem startCommand_setOz (u : Nat) (x : OneZero) :
    (startCommand s).setOz u x = startCommand (s.setOz u x) := rfl
@[simp] theorem startCommand_setPz (u : Nat) (x : PoleZero) :
    (startCommand s).setPz u x = startCommand (s.setPz u x) := rfl
@[simp] theorem startCommand_setBq (u : Nat) (x : Biquad) :
    (startCommand s).setBq u x = startCommand (s.setBq u x) := rfl
@[simp] theorem startCommand_setBow (u : Nat) (x : Bow) :
    (startCommand s).setBow u x = startCommand (s.setBow u x) := rfl
@[simp] theorem startCommand_setReed (u : Nat) (x : Reed) :
    (startCommand s).setReed u x = startCommand (s.setReed u x) := rfl
@[simp] theorem startCommand_setJet (u : Nat) (x : Jet) :
    (startCommand s).setJet u x = startCommand (s.setJet u x) := rfl
@[simp] theorem startCommand_setLip (u : Nat) (x : Lip) :
    (startCommand s).setLip u x = startCommand (s.setLip u x) := rfl
@[simp] theorem startCommand_setEnv (u : Nat) (x : Env) :
    (startCommand s).setEnv u x = startCommand (s.setEnv u x) := rfl
@[simp] theorem startCommand_setAdsr (u : Nat) (x : Adsr) :
    (startCommand s).setAdsr u x = startCommand (s.setAdsr u x) := rfl
@[simp] theorem startCommand_setNs (u : Nat) (x : Noise) :
    (startCommand s).setNs u x = startCommand (s.setNs u x) := rfl
@[simp] theorem startCommand_setOsc (u : Nat) (x : Osc) :
    (startCommand s).setOsc u x = startCommand (s.setOsc u x) := rfl
@[simp] theorem startCommand_setVoice (v : Voice) :
    (startCommand s).setVoice v = startCommand (s.setVoice v) := rfl

/-! A warning moved outward past the updates of a rule. -/

@[simp] theorem raise_setDl (w : Warning) (u : Nat) (x : DelayLine) :
    (raise w s).setDl u x = raise w (s.setDl u x) := rfl
@[simp] theorem raise_setOp (w : Warning) (u : Nat) (x : OnePole) :
    (raise w s).setOp u x = raise w (s.setOp u x) := rfl
@[simp] theorem raise_setOz (w : Warning) (u : Nat) (x : OneZero) :
    (raise w s).setOz u x = raise w (s.setOz u x) := rfl
@[simp] theorem raise_setPz (w : Warning) (u : Nat) (x : PoleZero) :
    (raise w s).setPz u x = raise w (s.setPz u x) := rfl
@[simp] theorem raise_setBq (w : Warning) (u : Nat) (x : Biquad) :
    (raise w s).setBq u x = raise w (s.setBq u x) := rfl
@[simp] theorem raise_setBow (w : Warning) (u : Nat) (x : Bow) :
    (raise w s).setBow u x = raise w (s.setBow u x) := rfl
@[simp] theorem raise_setReed (w : Warning) (u : Nat) (x : Reed) :
    (raise w s).setReed u x = raise w (s.setReed u x) := rfl
@[simp] theorem raise_setJet (w : Warning) (u : Nat) (x : Jet) :
    (raise w s).setJet u x = raise w (s.setJet u x) := rfl
@[simp] theorem raise_setLip (w : Warning) (u : Nat) (x : Lip) :
    (raise w s).setLip u x = raise w (s.setLip u x) := rfl
@[simp] theorem raise_setEnv (w : Warning) (u : Nat) (x : Env) :
    (raise w s).setEnv u x = raise w (s.setEnv u x) := rfl
@[simp] theorem raise_setAdsr (w : Warning) (u : Nat) (x : Adsr) :
    (raise w s).setAdsr u x = raise w (s.setAdsr u x) := rfl
@[simp] theorem raise_setNs (w : Warning) (u : Nat) (x : Noise) :
    (raise w s).setNs u x = raise w (s.setNs u x) := rfl
@[simp] theorem raise_setOsc (w : Warning) (u : Nat) (x : Osc) :
    (raise w s).setOsc u x = raise w (s.setOsc u x) := rfl
@[simp] theorem raise_setVoice (w : Warning) (v : Voice) :
    (raise w s).setVoice v = raise w (s.setVoice v) := rfl

/-! The end of a command as a response. -/

theorem endCommand_answer (r : Word) : endCommand (answer r (startCommand s)) = respond r [] s := by
  simp [endCommand, answer, startCommand, respond, warnMask, lastCode]

theorem endCommand_start : endCommand (startCommand s) = respond 0#32 [] s := by
  simp [endCommand, startCommand, respond, warnMask, lastCode]

theorem endCommand_raise (w : Warning) : endCommand (raise w (startCommand s)) = respond 0#32 [w] s := by
  simp [endCommand, raise, startCommand, respond, warnMask, lastCode]

theorem endCommand_refuse : endCommand (refuse (startCommand s)) = respond 0#32 [.illegal] s := by
  simp [endCommand, refuse, answer, raise, startCommand, respond, warnMask, lastCode]

end Sys2Proof.Machine
end

