-- ==== Sys2Proof/Laws/Ops.lean ====
section
/-! SUPPORT. What each shared operation can do, said once: the word spaces, the checks before a rule, a command, a
refusal, a reset, one event of the host. -/

namespace Sys2Proof.Machine

/-! ## Word spaces (spec/20_memory.md R101) -/

theorem memRead_of_lt {m : Memory} {k : Nat} (h : ∀ c ∈ m, k < c.1) : memRead m k = 0#32 := by
  induction m with
  | nil => rfl
  | cons c m ih =>
    have hc := h c (by simp)
    simp only [memRead, if_neg (Nat.ne_of_gt hc)]
    exact ih fun d hd => h d (by simp [hd])

/-- A write leaves every other word alone. -/
theorem memRead_memPut_ne (m : Memory) {k j : Nat} (v : Word) (h : j ≠ k) : memRead (memPut m k v) j = memRead m j := by
  induction m with
  | nil =>
    by_cases hv : v = 0#32
    · simp [memPut, hv]
    · simp [memPut, hv, memRead, Ne.symm h]
  | cons c m ih =>
    unfold memPut
    by_cases h1 : k < c.1
    · by_cases hv : v = 0#32
      · simp [h1, hv]
      · simp [h1, hv, memRead, Ne.symm h]
    · by_cases h2 : k = c.1
      · subst h2
        by_cases hv : v = 0#32
        · simp [hv, memRead, Ne.symm h]
        · simp [hv, memRead, Ne.symm h]
      · simp [h1, h2, memRead, ih]

/-- A word reads as it was written last. -/
theorem memRead_memPut_self {m : Memory} (hm : Memory.wf m) (k : Nat) (v : Word) : memRead (memPut m k v) k = v := by
  induction m with
  | nil =>
    by_cases hv : v = 0#32
    · simp [memPut, hv, memRead]
    · simp [memPut, hv, memRead]
  | cons c m ih =>
    obtain ⟨hp, hz⟩ := hm
    obtain ⟨hc, hp'⟩ := List.pairwise_cons.mp hp
    have hz' : ∀ d ∈ m, d.2 ≠ 0#32 := fun d hd => hz d (by simp [hd])
    unfold memPut
    by_cases h1 : k < c.1
    · by_cases hv : v = 0#32
      · simp only [h1, hv, if_true]
        refine memRead_of_lt fun d hd => ?_
        rcases List.mem_cons.mp hd with rfl | hd
        · exact h1
        · exact Nat.lt_trans h1 (hc d hd)
      · simp [h1, hv, memRead]
    · by_cases h2 : k = c.1
      · subst h2
        by_cases hv : v = 0#32
        · simp only [Nat.lt_irrefl, hv, if_true, if_false]
          exact memRead_of_lt hc
        · simp [hv, memRead]
      · simp [h1, h2, memRead, Ne.symm h2, ih ⟨hp', hz'⟩]

theorem mem_memPut {m : Memory} {k : Nat} {v : Word} {c : Nat × Word} (h : c ∈ memPut m k v) :
    c ∈ m ∨ (c = (k, v) ∧ v ≠ 0#32) := by
  induction m with
  | nil =>
    by_cases hv : v = 0#32
    · simp [memPut, hv] at h
    · simp [memPut, hv] at h; exact .inr ⟨h, hv⟩
  | cons d m ih =>
    unfold memPut at h
    by_cases h1 : k < d.1
    · by_cases hv : v = 0#32
      · simp [h1, hv] at h; exact .inl (by simpa using h)
      · simp [h1, hv] at h
        rcases h with h | h
        · exact .inr ⟨h, hv⟩
        · exact .inl (by simpa using h)
    · by_cases h2 : k = d.1
      · by_cases hv : v = 0#32
        · simp [h2, hv] at h; exact .inl (by simp [h])
        · simp [h2, hv] at h
          rcases h with h | h
          · exact .inr ⟨by rw [h, h2], hv⟩
          · exact .inl (by simp [h])
      · simp [h1, h2] at h
        rcases h with h | h
        · exact .inl (by simp [h])
        · rcases ih h with h | h
          · exact .inl (by simp [h])
          · exact .inr h

/-- Every memory operation keeps the canonical form. -/
theorem memPut_wf {m : Memory} (hm : Memory.wf m) (k : Nat) (v : Word) : Memory.wf (memPut m k v) := by
  refine ⟨?_, fun c hc => ?_⟩
  · induction m with
    | nil => by_cases hv : v = 0#32 <;> simp [memPut, hv]
    | cons c m ih =>
      obtain ⟨hp, hz⟩ := hm
      obtain ⟨hc, hp'⟩ := List.pairwise_cons.mp hp
      have hm' : Memory.wf m := ⟨hp', fun d hd => hz d (by simp [hd])⟩
      unfold memPut
      by_cases h1 : k < c.1
      · by_cases hv : v = 0#32
        · simpa [h1, hv] using hp
        · simp only [h1, hv, if_true, if_false]
          refine List.pairwise_cons.mpr ⟨fun d hd => ?_, hp⟩
          rcases List.mem_cons.mp hd with rfl | hd
          · exact h1
          · exact Nat.lt_trans h1 (hc d hd)
      · by_cases h2 : k = c.1
        · by_cases hv : v = 0#32
          · simpa [h2, hv] using hp'
          · simp only [h2, hv, if_true, if_false, Nat.lt_irrefl]
            exact List.pairwise_cons.mpr ⟨hc, hp'⟩
        · simp only [h1, h2, if_false]
          refine List.pairwise_cons.mpr ⟨fun d hd => ?_, ih hm'⟩
          rcases mem_memPut hd with hd | ⟨rfl, -⟩
          · exact hc d hd
          · show c.1 < k
            omega
  · rcases mem_memPut hc with hc | ⟨rfl, hv⟩
    · exact hm.2 c hc
    · exact hv

theorem memWrite_wf {m : Memory} (hm : Memory.wf m) (k : Nat) (v : F32) : Memory.wf (memWrite m k v) :=
  memPut_wf hm k (fCanon v)

theorem memZero_wf : Memory.wf memZero := ⟨by simp [memZero], by simp [memZero]⟩

@[simp] theorem memRead_memZero (k : Nat) : memRead memZero k = 0#32 := rfl

/-- `MemRead` after `MemWrite` (spec/20_memory.md R101). -/
theorem memRead_memWrite {m : Memory} (hm : Memory.wf m) (k j : Nat) (v : F32) :
    memRead (memWrite m k v) j = if j = k then fCanon v else memRead m j := by
  by_cases h : j = k
  · subst h; simp [memWrite, memRead_memPut_self hm]
  · simp [memWrite, h, memRead_memPut_ne]

/-- A write inside the space keeps every cell inside it. -/
theorem memWrite_bound {m : Memory} {n k : Nat} (hm : ∀ c ∈ m, c.1 < n) (hk : k < n) (v : F32) :
    ∀ c ∈ memWrite m k v, c.1 < n := by
  intro c hc
  rcases mem_memPut hc with hc | ⟨rfl, -⟩
  · exact hm c hc
  · exact hk

/-! ## A command (spec/30_encoding.md R148) -/

theorem command_eq (body : State → State) (s : State) :
    command body s = .next (endCommand (body (startCommand s))) := rfl

theorem onUnit_of_lt {n u : Nat} (h : u < n) (body : State → State) (s : State) : onUnit n u body s = body s := by
  simp [onUnit, h]

theorem onUnit_of_ge {n u : Nat} (h : n ≤ u) (body : State → State) (s : State) : onUnit n u body s = refuse s := by
  simp [onUnit, Nat.not_lt.mpr h]

theorem onVoice_of_ne {s : State} (h : s.voice.instr ≠ .none) (body : State → State) : onVoice body s = body s := by
  simp [onVoice, h]

theorem onVoice_of_none {s : State} (h : s.voice.instr = .none) (body : State → State) :
    onVoice body s = raise .noInstr s := by
  simp [onVoice, h]

/-- A command on a unit that exists runs its rule from the cleared response. -/
theorem command_onUnit {n u : Nat} (h : u < n) (body : State → State) (s : State) :
    command (onUnit n u body) s = .next (endCommand (body (startCommand s))) := by
  simp [command, onUnit, h]

/-- A command on a unit that does not exist is refused (spec/60_exceptions.md R533). -/
theorem command_onUnit_ge {n u : Nat} (h : n ≤ u) (body : State → State) (s : State) :
    command (onUnit n u body) s = .next (respond 0#32 [.illegal] s) := by
  simp [command, onUnit, Nat.not_lt.mpr h, endCommand_refuse]

/-- A VOICE command with an instrument selected runs its rule from the cleared response. -/
theorem command_onVoice {s : State} (h : s.voice.instr ≠ .none) (body : State → State) :
    command (onVoice body) s = .next (endCommand (body (startCommand s))) := by
  simp [command, onVoice, h]

/-- A VOICE command without an instrument raises W_NO_INSTR and does nothing else (spec/45_voice.md R438). -/
theorem command_onVoice_none {s : State} (h : s.voice.instr = .none) (body : State → State) :
    command (onVoice body) s = .next (respond 0#32 [.noInstr] s) := by
  simp [command, onVoice, h, endCommand_raise]

/-- A register read: the listed word, or a refusal (spec/10_state.md R32). -/
theorem endCommand_answerReg (r : Option Word) (s : State) :
    endCommand (answerReg r (startCommand s)) =
      match r with
      | some w => respond w [] s
      | none => respond 0#32 [.illegal] s := by
  cases r with
  | some w => exact endCommand_answer s w
  | none => exact endCommand_refuse s

/-! ## Reset (spec/70_reset_and_hazards.md R571) -/

/-- A reset of the block of a build is that build's reset state, with the host's events and the draw counter kept. -/
theorem restart_ofBuild (b : Config.Build) : restart (State.ofBuild b) = State.ofBuild b := by
  simp [restart, State.ofBuild, Osc.reset, DelayLine.reset]

theorem restart_restart (s : State) : restart (restart s) = restart s := by
  simp [restart, Function.comp_def, DelayLine.reset, Osc.reset]

/-- The reset state's word spaces have the canonical form. -/
theorem reset_memory_wf : (∀ d ∈ State.reset.dl, Memory.wf d.buf) ∧ ∀ o ∈ State.reset.osc, Memory.wf o.tbl := by
  decide

/-! ## One event of the host -/

theorem step_nil {s : State} (h : s.inbox = []) : step s = .next (idleCycle s) := by simp [step, serve, h]

theorem step_idle {s : State} {es : List HostEvent} (h : s.inbox = .idle :: es) :
    step s = .next (idleCycle { s with inbox := es }) := by simp [step, serve, h]

theorem step_command {s : State} {p : Packet} {es : List HostEvent} (h : s.inbox = .command p :: es) :
    step s = runPacket p { s with inbox := es } := by simp [step, serve, h]

theorem step_rst {s : State} {es : List HostEvent} (h : s.inbox = .rst :: es) :
    step s = .next (restart { s with inbox := es }) := by simp [step, serve, h]

theorem step_abandoned {s : State} {p : Packet} {es : List HostEvent} (h : s.inbox = .abandoned p :: es) :
    step s = .next (restart { s with inbox := es }) := by simp [step, serve, h]

end Sys2Proof.Machine
end

