-- ==== Sys2Proof/Laws/PerInstr.lean ====
section
/-! SUPPORT. What the encoder does with the fields of each command, one lemma per command: a field that the opcode map
says must be zero is written zero (spec/30_encoding.md R149). -/

namespace Sys2Proof

namespace Laws.Encoding

/-- The encoder writes zero in every field that the command's row of the opcode map says must be zero. -/
def Statement (i : Instr) : Prop :=
  ∀ r, opRow (cmdOp (encode i).cmd) = some r →
    (r.unit = .zero → cmdUnit (encode i).cmd = 0) ∧ (r.imm = .zero → cmdImm (encode i).cmd = 0)

/-- A command word fills only the fields its row uses. -/
theorem fields {op : BitVec 8} {unit imm : Nat} {row r : OpRow} (hrow : opRow op = some row)
    (hu : row.unit = .zero → unit = 0) (hi : row.imm = .zero → imm = 0)
    (h : opRow (cmdOp (cmdWord op unit imm)) = some r) :
    (r.unit = .zero → cmdUnit (cmdWord op unit imm) = 0) ∧ (r.imm = .zero → cmdImm (cmdWord op unit imm) = 0) := by
  rw [cmdOp_cmdWord, hrow] at h
  cases h
  rw [cmdUnit_cmdWord, cmdImm_cmdWord]
  exact ⟨fun h => by simp [hu h], fun h => by simp [hi h]⟩

theorem sysNop : Statement .sysNop :=
  fun _ h => fields rfl (fun _ => rfl) (fun _ => rfl) h
theorem sysReset : Statement .sysReset :=
  fun _ h => fields rfl (fun _ => rfl) (fun _ => rfl) h
theorem sysRdReg (reg : Nat) : Statement (.sysRdReg reg) :=
  fun _ h => fields rfl (fun _ => rfl) (fun h => by cases h) h
theorem sysWrReg (reg : Nat) (v : Word) : Statement (.sysWrReg reg v) :=
  fun _ h => fields rfl (fun _ => rfl) (fun h => by cases h) h
theorem dlSetDelay (unit : Nat) (lag : Word) : Statement (.dlSetDelay unit lag) :=
  fun _ h => fields rfl (fun h => by cases h) (fun _ => rfl) h
theorem dlTick (unit : Nat) (x : Word) : Statement (.dlTick unit x) :=
  fun _ h => fields rfl (fun h => by cases h) (fun _ => rfl) h
theorem dlLastOut (unit : Nat) : Statement (.dlLastOut unit) :=
  fun _ h => fields rfl (fun h => by cases h) (fun _ => rfl) h
theorem dlClear (unit : Nat) : Statement (.dlClear unit) :=
  fun _ h => fields rfl (fun h => by cases h) (fun _ => rfl) h
theorem dlBufRd (unit : Nat) (k : Word) : Statement (.dlBufRd unit k) :=
  fun _ h => fields rfl (fun h => by cases h) (fun _ => rfl) h
theorem dlRdReg (unit : Nat) (reg : Nat) : Statement (.dlRdReg unit reg) :=
  fun _ h => fields rfl (fun h => by cases h) (fun h => by cases h) h
theorem opSetPole (unit : Nat) (p : Word) : Statement (.opSetPole unit p) :=
  fun _ h => fields rfl (fun h => by cases h) (fun _ => rfl) h
theorem opSetGain (unit : Nat) (g : Word) : Statement (.opSetGain unit g) :=
  fun _ h => fields rfl (fun h => by cases h) (fun _ => rfl) h
theorem opTick (unit : Nat) (x : Word) : Statement (.opTick unit x) :=
  fun _ h => fields rfl (fun h => by cases h) (fun _ => rfl) h
theorem opClear (unit : Nat) : Statement (.opClear unit) :=
  fun _ h => fields rfl (fun h => by cases h) (fun _ => rfl) h
theorem opLastOut (unit : Nat) : Statement (.opLastOut unit) :=
  fun _ h => fields rfl (fun h => by cases h) (fun _ => rfl) h
theorem opRdReg (unit : Nat) (reg : Nat) : Statement (.opRdReg unit reg) :=
  fun _ h => fields rfl (fun h => by cases h) (fun h => by cases h) h
theorem ozSetZero (unit : Nat) (z : Word) : Statement (.ozSetZero unit z) :=
  fun _ h => fields rfl (fun h => by cases h) (fun _ => rfl) h
theorem ozSetGain (unit : Nat) (g : Word) : Statement (.ozSetGain unit g) :=
  fun _ h => fields rfl (fun h => by cases h) (fun _ => rfl) h
theorem ozTick (unit : Nat) (x : Word) : Statement (.ozTick unit x) :=
  fun _ h => fields rfl (fun h => by cases h) (fun _ => rfl) h
theorem ozClear (unit : Nat) : Statement (.ozClear unit) :=
  fun _ h => fields rfl (fun h => by cases h) (fun _ => rfl) h
theorem ozLastOut (unit : Nat) : Statement (.ozLastOut unit) :=
  fun _ h => fields rfl (fun h => by cases h) (fun _ => rfl) h
theorem ozRdReg (unit : Nat) (reg : Nat) : Statement (.ozRdReg unit reg) :=
  fun _ h => fields rfl (fun h => by cases h) (fun h => by cases h) h
theorem pzSetA1 (unit : Nat) (a1 : Word) : Statement (.pzSetA1 unit a1) :=
  fun _ h => fields rfl (fun h => by cases h) (fun _ => rfl) h
theorem pzSetB0 (unit : Nat) (b0 : Word) : Statement (.pzSetB0 unit b0) :=
  fun _ h => fields rfl (fun h => by cases h) (fun _ => rfl) h
theorem pzSetB1 (unit : Nat) (b1 : Word) : Statement (.pzSetB1 unit b1) :=
  fun _ h => fields rfl (fun h => by cases h) (fun _ => rfl) h
theorem pzSetBlockZero (unit : Nat) (p : Word) : Statement (.pzSetBlockZero unit p) :=
  fun _ h => fields rfl (fun h => by cases h) (fun _ => rfl) h
theorem pzTick (unit : Nat) (x : Word) : Statement (.pzTick unit x) :=
  fun _ h => fields rfl (fun h => by cases h) (fun _ => rfl) h
theorem pzClear (unit : Nat) : Statement (.pzClear unit) :=
  fun _ h => fields rfl (fun h => by cases h) (fun _ => rfl) h
theorem pzLastOut (unit : Nat) : Statement (.pzLastOut unit) :=
  fun _ h => fields rfl (fun h => by cases h) (fun _ => rfl) h
theorem pzRdReg (unit : Nat) (reg : Nat) : Statement (.pzRdReg unit reg) :=
  fun _ h => fields rfl (fun h => by cases h) (fun h => by cases h) h
theorem bqSetFreqReson (unit : Nat) (freq : Word) (reson : Word) : Statement (.bqSetFreqReson unit freq reson) :=
  fun _ h => fields rfl (fun h => by cases h) (fun _ => rfl) h
theorem bqSetEqualGainZeroes (unit : Nat) : Statement (.bqSetEqualGainZeroes unit) :=
  fun _ h => fields rfl (fun h => by cases h) (fun _ => rfl) h
theorem bqTick (unit : Nat) (x : Word) : Statement (.bqTick unit x) :=
  fun _ h => fields rfl (fun h => by cases h) (fun _ => rfl) h
theorem bqClear (unit : Nat) : Statement (.bqClear unit) :=
  fun _ h => fields rfl (fun h => by cases h) (fun _ => rfl) h
theorem bqLastOut (unit : Nat) : Statement (.bqLastOut unit) :=
  fun _ h => fields rfl (fun h => by cases h) (fun _ => rfl) h
theorem bqSetCoef (unit : Nat) (coef : Nat) (v : Word) : Statement (.bqSetCoef unit coef v) :=
  fun _ h => fields rfl (fun h => by cases h) (fun h => by cases h) h
theorem bqRdReg (unit : Nat) (reg : Nat) : Statement (.bqRdReg unit reg) :=
  fun _ h => fields rfl (fun h => by cases h) (fun h => by cases h) h
theorem bowSetOffset (unit : Nat) (offset : Word) : Statement (.bowSetOffset unit offset) :=
  fun _ h => fields rfl (fun h => by cases h) (fun _ => rfl) h
theorem bowSetSlope (unit : Nat) (slope : Word) : Statement (.bowSetSlope unit slope) :=
  fun _ h => fields rfl (fun h => by cases h) (fun _ => rfl) h
theorem bowTick (unit : Nat) (dv : Word) : Statement (.bowTick unit dv) :=
  fun _ h => fields rfl (fun h => by cases h) (fun _ => rfl) h
theorem bowRdReg (unit : Nat) (reg : Nat) : Statement (.bowRdReg unit reg) :=
  fun _ h => fields rfl (fun h => by cases h) (fun h => by cases h) h
theorem reedSetOffset (unit : Nat) (offset : Word) : Statement (.reedSetOffset unit offset) :=
  fun _ h => fields rfl (fun h => by cases h) (fun _ => rfl) h
theorem reedSetSlope (unit : Nat) (slope : Word) : Statement (.reedSetSlope unit slope) :=
  fun _ h => fields rfl (fun h => by cases h) (fun _ => rfl) h
theorem reedTick (unit : Nat) (dp : Word) : Statement (.reedTick unit dp) :=
  fun _ h => fields rfl (fun h => by cases h) (fun _ => rfl) h
theorem reedRdReg (unit : Nat) (reg : Nat) : Statement (.reedRdReg unit reg) :=
  fun _ h => fields rfl (fun h => by cases h) (fun h => by cases h) h
theorem jetTick (unit : Nat) (x : Word) : Statement (.jetTick unit x) :=
  fun _ h => fields rfl (fun h => by cases h) (fun _ => rfl) h
theorem jetRdReg (unit : Nat) (reg : Nat) : Statement (.jetRdReg unit reg) :=
  fun _ h => fields rfl (fun h => by cases h) (fun h => by cases h) h
theorem lipSetFreqReson (unit : Nat) (freq : Word) (reson : Word) : Statement (.lipSetFreqReson unit freq reson) :=
  fun _ h => fields rfl (fun h => by cases h) (fun _ => rfl) h
theorem lipSetEqualGainZeroes (unit : Nat) : Statement (.lipSetEqualGainZeroes unit) :=
  fun _ h => fields rfl (fun h => by cases h) (fun _ => rfl) h
theorem lipTick (unit : Nat) (mouthP : Word) (boreP : Word) : Statement (.lipTick unit mouthP boreP) :=
  fun _ h => fields rfl (fun h => by cases h) (fun _ => rfl) h
theorem lipClear (unit : Nat) : Statement (.lipClear unit) :=
  fun _ h => fields rfl (fun h => by cases h) (fun _ => rfl) h
theorem lipLastOut (unit : Nat) : Statement (.lipLastOut unit) :=
  fun _ h => fields rfl (fun h => by cases h) (fun _ => rfl) h
theorem lipSetCoef (unit : Nat) (coef : Nat) (v : Word) : Statement (.lipSetCoef unit coef v) :=
  fun _ h => fields rfl (fun h => by cases h) (fun h => by cases h) h
theorem lipRdReg (unit : Nat) (reg : Nat) : Statement (.lipRdReg unit reg) :=
  fun _ h => fields rfl (fun h => by cases h) (fun h => by cases h) h
theorem envSetRate (unit : Nat) (rate : Word) : Statement (.envSetRate unit rate) :=
  fun _ h => fields rfl (fun h => by cases h) (fun _ => rfl) h
theorem envSetTarget (unit : Nat) (target : Word) : Statement (.envSetTarget unit target) :=
  fun _ h => fields rfl (fun h => by cases h) (fun _ => rfl) h
theorem envSetValue (unit : Nat) (v : Word) : Statement (.envSetValue unit v) :=
  fun _ h => fields rfl (fun h => by cases h) (fun _ => rfl) h
theorem envKeyOn (unit : Nat) : Statement (.envKeyOn unit) :=
  fun _ h => fields rfl (fun h => by cases h) (fun _ => rfl) h
theorem envKeyOff (unit : Nat) : Statement (.envKeyOff unit) :=
  fun _ h => fields rfl (fun h => by cases h) (fun _ => rfl) h
theorem envTick (unit : Nat) : Statement (.envTick unit) :=
  fun _ h => fields rfl (fun h => by cases h) (fun _ => rfl) h
theorem envRdReg (unit : Nat) (reg : Nat) : Statement (.envRdReg unit reg) :=
  fun _ h => fields rfl (fun h => by cases h) (fun h => by cases h) h
theorem adsrSetAttack (unit : Nat) (rate : Word) : Statement (.adsrSetAttack unit rate) :=
  fun _ h => fields rfl (fun h => by cases h) (fun _ => rfl) h
theorem adsrSetDecay (unit : Nat) (rate : Word) : Statement (.adsrSetDecay unit rate) :=
  fun _ h => fields rfl (fun h => by cases h) (fun _ => rfl) h
theorem adsrSetSustain (unit : Nat) (level : Word) : Statement (.adsrSetSustain unit level) :=
  fun _ h => fields rfl (fun h => by cases h) (fun _ => rfl) h
theorem adsrSetRelease (unit : Nat) (rate : Word) : Statement (.adsrSetRelease unit rate) :=
  fun _ h => fields rfl (fun h => by cases h) (fun _ => rfl) h
theorem adsrKeyOn (unit : Nat) : Statement (.adsrKeyOn unit) :=
  fun _ h => fields rfl (fun h => by cases h) (fun _ => rfl) h
theorem adsrKeyOff (unit : Nat) : Statement (.adsrKeyOff unit) :=
  fun _ h => fields rfl (fun h => by cases h) (fun _ => rfl) h
theorem adsrTick (unit : Nat) : Statement (.adsrTick unit) :=
  fun _ h => fields rfl (fun h => by cases h) (fun _ => rfl) h
theorem adsrRdReg (unit : Nat) (reg : Nat) : Statement (.adsrRdReg unit reg) :=
  fun _ h => fields rfl (fun h => by cases h) (fun h => by cases h) h
theorem nsSeed (unit : Nat) (seed : Word) : Statement (.nsSeed unit seed) :=
  fun _ h => fields rfl (fun h => by cases h) (fun _ => rfl) h
theorem nsTick (unit : Nat) : Statement (.nsTick unit) :=
  fun _ h => fields rfl (fun h => by cases h) (fun _ => rfl) h
theorem nsRdReg (unit : Nat) (reg : Nat) : Statement (.nsRdReg unit reg) :=
  fun _ h => fields rfl (fun h => by cases h) (fun h => by cases h) h
theorem oscSetFreq (unit : Nat) (f : Word) : Statement (.oscSetFreq unit f) :=
  fun _ h => fields rfl (fun h => by cases h) (fun _ => rfl) h
theorem oscReset (unit : Nat) : Statement (.oscReset unit) :=
  fun _ h => fields rfl (fun h => by cases h) (fun _ => rfl) h
theorem oscTick (unit : Nat) : Statement (.oscTick unit) :=
  fun _ h => fields rfl (fun h => by cases h) (fun _ => rfl) h
theorem oscTblWr (unit : Nat) (idx : Nat) (v : Word) : Statement (.oscTblWr unit idx v) :=
  fun _ h => fields rfl (fun h => by cases h) (fun h => by cases h) h
theorem oscTblRd (unit : Nat) (idx : Nat) : Statement (.oscTblRd unit idx) :=
  fun _ h => fields rfl (fun h => by cases h) (fun h => by cases h) h
theorem oscRdReg (unit : Nat) (reg : Nat) : Statement (.oscRdReg unit reg) :=
  fun _ h => fields rfl (fun h => by cases h) (fun h => by cases h) h
theorem vNoteOn (f : Word) (amp : Word) : Statement (.vNoteOn f amp) :=
  fun _ h => fields rfl (fun _ => rfl) (fun _ => rfl) h
theorem vNoteOff (amp : Word) : Statement (.vNoteOff amp) :=
  fun _ h => fields rfl (fun _ => rfl) (fun _ => rfl) h
theorem vSetFreq (f : Word) : Statement (.vSetFreq f) :=
  fun _ h => fields rfl (fun _ => rfl) (fun _ => rfl) h
theorem vTick : Statement .vTick :=
  fun _ h => fields rfl (fun _ => rfl) (fun _ => rfl) h
theorem vCc (num : Nat) (v : Word) : Statement (.vCc num v) :=
  fun _ h => fields rfl (fun _ => rfl) (fun h => by cases h) h
theorem vSetInstr (id : Nat) : Statement (.vSetInstr id) :=
  fun _ h => fields rfl (fun _ => rfl) (fun h => by cases h) h
theorem vReset : Statement .vReset :=
  fun _ h => fields rfl (fun _ => rfl) (fun _ => rfl) h
theorem vLastOut : Statement .vLastOut :=
  fun _ h => fields rfl (fun _ => rfl) (fun _ => rfl) h
theorem vRdReg (reg : Nat) : Statement (.vRdReg reg) :=
  fun _ h => fields rfl (fun _ => rfl) (fun h => by cases h) h
theorem vWrReg (reg : Nat) (v : Word) : Statement (.vWrReg reg v) :=
  fun _ h => fields rfl (fun _ => rfl) (fun h => by cases h) h

end Laws.Encoding

end Sys2Proof
end

