-- ==== Sys2Proof/Machine/Assembly.lean ====
section
/-! DEFINITION. The assembly syntax and the pseudo-instructions (spec/30_encoding.md R153, R154): how a program written in
the notation of the spec becomes packets. No step uses it (log 21). -/

namespace Sys2Proof.Machine

/-- The coefficients of a biquad, by name (spec/30_encoding.md R154). -/
inductive Coef where
  | b0
  | b1
  | b2
  | a1
  | a2
deriving DecidableEq, Repr

/-- The coefficient index of `BQ.SETCOEF` and `LIP.SETCOEF` (spec/41_filters.md R265). -/
def coefIndex : Coef → Nat
  | .b0 => 0
  | .b1 => 1
  | .b2 => 2
  | .a1 => 3
  | .a2 => 4

/-- The voice parameter registers by name, in the order of their indices 8 to 23 (spec/10_state.md R49). -/
def paramNames : List String :=
  ["COMP", "RATIO", "MIN_DELAY", "DEFAULT_FREQ", "OUT_GAIN", "EXC_OFFSET", "EXC_SCALE", "ATTACK_RATE",
   "RELEASE_SCALE", "NOISE_GAIN", "VIB_GAIN", "REFL_A", "REFL_B", "LOOP_GAIN", "LOOP_GAIN_ON", "LIP_RESON"]

/-- The instruments by name, in the order of their ids 0 to 4 (spec/30_encoding.md R154). -/
def instrumentNames : List String := ["BOWED", "CLARINET", "FLUTE", "BRASS", "PLUCKED"]

/-- The place of a name in a list of names. -/
def nameIndex : List String → String → Option Nat
  | [], _ => none
  | n :: ns, x => if n == x then some 0 else (nameIndex ns x).map (· + 1)

/-- The pseudo-instructions (spec/30_encoding.md R154). A parameter or an instrument is given by its name. -/
inductive Pseudo where
  | bqSet (c : Coef) (unit : Nat) (v : Word)
  | lipSet (c : Coef) (unit : Nat) (v : Word)
  | pzDcBlock (unit : Nat)
  | sysClrWarn (m : Word)
  | sysIrqEn (m : Word)
  | vSet (name : String) (v : Word)
  | vSetInstr (name : String)
  | envRamp (unit : Nat) (t r : Word)
deriving DecidableEq, Repr

/-- The expansion of a pseudo-instruction; none for a name the spec does not list (spec/30_encoding.md R154). -/
def expand : Pseudo → Option (List Instr)
  | .bqSet c unit v => some [.bqSetCoef unit (coefIndex c) v]
  | .lipSet c unit v => some [.lipSetCoef unit (coefIndex c) v]
  | .pzDcBlock unit => some [.pzSetBlockZero unit (fDec 99 100)]
  | .sysClrWarn m => some [.sysWrReg 1 m]
  | .sysIrqEn m => some [.sysWrReg 2 m]
  | .vSet name v => (nameIndex paramNames name).map (fun k => [.vWrReg (8 + k) v])
  | .vSetInstr name => (nameIndex instrumentNames name).map (fun k => [.vSetInstr k])
  | .envRamp unit t r => some [.envSetRate unit r, .envSetTarget unit t]

/-- A `<value>` of the syntax (spec/30_encoding.md R153). -/
inductive AsmValue where
  /-- A decimal literal: its sign, and its digits as `num / den` with `den` a power of ten. -/
  | decimal (neg : Bool) (num den : Nat)
  /-- `0x` and this many hexadecimal digits. -/
  | hex (digits value : Nat)
deriving DecidableEq, Repr

/-- One line, its fields as written (spec/30_encoding.md R153). `name` is the bare name of `V.SET` and `V.SETINSTR`. -/
structure AsmLine where
  mnemonic : String
  name : Option String
  unit : Option Nat
  imm : Option Nat
  a : Option AsmValue
  b : Option AsmValue
deriving DecidableEq, Repr

/-- The commands whose operand A is an integer (spec/30_encoding.md R142, R153), and the pseudo-instructions that expand
to one. -/
def integerOperand (mnemonic : String) : Bool :=
  ["NS.SEED", "DL.BUFRD", "SYS.WRREG", "SYS.CLRWARN", "SYS.IRQEN"].contains mnemonic

/-- The word a value stands for: the binary32 value nearest to a decimal, the raw word of eight hexadecimal digits, or an
integer (spec/30_encoding.md R153, spec/00_scope.md R23). -/
def asmWord (integer : Bool) : AsmValue → Option Word
  | .decimal neg num den =>
    if integer then (if neg = false ∧ den = 1 ∧ num < 4294967296 then some (BitVec.ofNat 32 num) else none)
    else some (roundQuot neg (num * unitScale) den)
  | .hex digits value =>
    if value < 4294967296 ∧ (integer = true ∨ digits = 8) then some (BitVec.ofNat 32 value) else none

/-- An operand word; an omitted one is the word 0 (spec/30_encoding.md R153). -/
def asmOperand (integer : Bool) : Option AsmValue → Option Word
  | none => some 0#32
  | some v => asmWord integer v

/-- The pseudo-instruction a line is, if its mnemonic is one (spec/30_encoding.md R154). Of the line's unit and operand
words it takes those its expansion uses and drops the others (log 24). -/
def asmPseudo (l : AsmLine) (unit : Nat) (a b : Word) : Option Pseudo :=
  match l.mnemonic, l.name with
  | "BQ.SETB0", none => some (.bqSet .b0 unit a)
  | "BQ.SETB1", none => some (.bqSet .b1 unit a)
  | "BQ.SETB2", none => some (.bqSet .b2 unit a)
  | "BQ.SETA1", none => some (.bqSet .a1 unit a)
  | "BQ.SETA2", none => some (.bqSet .a2 unit a)
  | "LIP.SETB0", none => some (.lipSet .b0 unit a)
  | "LIP.SETB1", none => some (.lipSet .b1 unit a)
  | "LIP.SETB2", none => some (.lipSet .b2 unit a)
  | "LIP.SETA1", none => some (.lipSet .a1 unit a)
  | "LIP.SETA2", none => some (.lipSet .a2 unit a)
  | "PZ.DCBLOCK", none => some (.pzDcBlock unit)
  | "SYS.CLRWARN", none => some (.sysClrWarn a)
  | "SYS.IRQEN", none => some (.sysIrqEn a)
  | "V.SET", some n => some (.vSet n a)
  | "V.SETINSTR", some n => some (.vSetInstr n)
  | "ENV.RAMP", none => some (.envRamp unit a b)
  | _, _ => none

/-- The packets of a line: those of a pseudo-instruction's expansion, or the one packet with the fields as written
(spec/30_encoding.md R153, R154). None where the mnemonic is unknown or a field does not fit.

DESIGN CHOICE (log 24): R153 and R154 do not say what a field means that the line does not use. On a core command's line
the field is written into the packet; on a pseudo-instruction's line a field that the expansion does not use (the unit of
a SYS or V pseudo-instruction, `#<imm>`, `b=` but for `ENV.RAMP`, `a=` of `PZ.DCBLOCK` and of `V.SETINSTR <name>`) is read,
must fit its place, and is dropped. A bare name on any other line gives no packet. -/
def assemble (l : AsmLine) : Option (List Packet) :=
  match asmOperand (integerOperand l.mnemonic) l.a, asmOperand (integerOperand l.mnemonic) l.b with
  | some a, some b =>
    if unitFits (l.unit.getD 0) ∧ immFits (l.imm.getD 0) then
      match asmPseudo l (l.unit.getD 0) a b with
      | some p => (expand p).map (fun is => is.map encode)
      | none =>
        match l.name, opcodeMap.find? (fun r => r.mnemonic == l.mnemonic) with
        | none, some r => some [⟨cmdWord r.op (l.unit.getD 0) (l.imm.getD 0), a, b⟩]
        | _, _ => none
    else none
  | _, _ => none

/-! The text of a line. -/

/-- The line up to its comment. -/
def dropComment : List Char → List Char
  | [] => []
  | c :: cs => if c = ';' then [] else c :: dropComment cs

/-- The tokens of a line, split at spaces and commas (log 24); `cur` is the token being read, last character first. -/
def tokens (cur : List Char) : List Char → List (List Char)
  | [] => if cur = [] then [] else [cur.reverse]
  | c :: cs =>
    if c = ' ' ∨ c = ',' then (if cur = [] then tokens [] cs else cur.reverse :: tokens [] cs)
    else tokens (c :: cur) cs

/-- The value of a hexadecimal digit. -/
def hexDigit (c : Char) : Option Nat :=
  if '0' ≤ c ∧ c ≤ '9' then some (c.toNat - 48)
  else if 'a' ≤ c ∧ c ≤ 'f' then some (c.toNat - 87)
  else if 'A' ≤ c ∧ c ≤ 'F' then some (c.toNat - 55)
  else none

/-- The value of a decimal digit. -/
def decDigit (c : Char) : Option Nat := if '0' ≤ c ∧ c ≤ '9' then some (c.toNat - 48) else none

/-- Digits in a base, most significant first, after the value `acc`. -/
def digitsValue (digit : Char → Option Nat) (base : Nat) (acc : Nat) : List Char → Option Nat
  | [] => some acc
  | c :: cs =>
    match digit c with
    | some d => digitsValue digit base (acc * base + d) cs
    | none => none

/-- An unsigned integer, decimal or `0x` hexadecimal (spec/30_encoding.md R153). -/
def readNat : List Char → Option Nat
  | [] => none
  | '0' :: 'x' :: c :: cs => digitsValue hexDigit 16 0 (c :: cs)
  | c :: cs => digitsValue decDigit 10 0 (c :: cs)

/-- The characters before and after the first point, if there is one. -/
def splitPoint : List Char → List Char × Option (List Char)
  | [] => ([], none)
  | c :: cs => if c = '.' then ([], some cs) else (c :: (splitPoint cs).1, (splitPoint cs).2)

/-- A decimal literal without its sign: at least one digit, then at most one point with any digits after it. DESIGN CHOICE
(log 24): spec/30_encoding.md R153 does not say whether a decimal literal may carry an exponent, a plus sign or no digit
before its point; no decimal of the spec has one, and the reader accepts none of them. -/
def readDecimal (neg : Bool) (cs : List Char) : Option AsmValue :=
  match splitPoint cs with
  | ([], _) => none
  | (whole, none) => (digitsValue decDigit 10 0 whole).map (fun n => .decimal neg n 1)
  | (whole, some frac) =>
    (digitsValue decDigit 10 0 (whole ++ frac)).map (fun n => .decimal neg n (10 ^ frac.length))

/-- A `<value>` (spec/30_encoding.md R153): `0x` and hexadecimal digits of either case, or a decimal literal that a minus
sign may lead, as in the examples of the spec (log 24). -/
def readValue : List Char → Option AsmValue
  | '0' :: 'x' :: cs => if cs = [] then none else (digitsValue hexDigit 16 0 cs).map (.hex cs.length)
  | '-' :: cs => readDecimal true cs
  | cs => readDecimal false cs

/-- The fields of a line, token by token; every field at most once, in any order (log 24). -/
def readFields (l : AsmLine) : List (List Char) → Option AsmLine
  | [] => some l
  | ('#' :: cs) :: ts =>
    match l.imm, readNat cs with
    | none, some n => readFields { l with imm := some n } ts
    | _, _ => none
  | ('a' :: '=' :: cs) :: ts =>
    match l.a, readValue cs with
    | none, some v => readFields { l with a := some v } ts
    | _, _ => none
  | ('b' :: '=' :: cs) :: ts =>
    match l.b, readValue cs with
    | none, some v => readFields { l with b := some v } ts
    | _, _ => none
  | ('u' :: cs) :: ts =>
    match l.unit, readNat cs with
    | none, some n => readFields { l with unit := some n } ts
    | _, _ => none
  | t :: ts =>
    match l.name with
    | none => readFields { l with name := some (String.ofList t) } ts
    | some _ => none

/-- A line read from its text; none for a line that is not in the syntax (spec/30_encoding.md R153). -/
def readLine (text : String) : Option AsmLine :=
  match tokens [] (dropComment text.toList) with
  | [] => none
  | m :: ts =>
    readFields { mnemonic := String.ofList m, name := none, unit := none, imm := none, a := none, b := none } ts

/-- The packets of a line of text (spec/30_encoding.md R153, R154). -/
def assembleText (text : String) : Option (List Packet) := (readLine text).bind assemble

end Sys2Proof.Machine
end

