-- ==== Sys2Proof/Tests/Slice0.lean ====
section
/-! SUPPORT. The model's own tests: ill-formed commands, one written-out word per command, one or two single steps per
command with the words of spec/95_test_vectors.md, and for each statement with hypotheses a state that meets them. -/

open Sys2Proof Sys2Proof.Machine

namespace Sys2Proof.Tests

set_option Elab.async false

/-! ## Well-formedness: an ill-formed term for each check -/

theorem test_wf_unit_of_nine_bits : ¬ WellFormed (.dlTick 256 0#32) := by decide
theorem test_wf_unit_of_nine_bits_beside_imm : ¬ WellFormed (.oscTblWr 256 65535 0#32) := by decide
theorem test_wf_imm_of_seventeen_bits : ¬ WellFormed (.oscTblWr 255 65536 0#32) := by decide
theorem test_wf_imm_without_unit : ¬ WellFormed (.vSetInstr 65536) ∧ ¬ WellFormed (.sysWrReg 65536 0#32) := by decide
theorem test_wf_largest_fields : WellFormed (.oscTblWr 255 65535 0xFFFFFFFF#32) := by decide

/-! ## Decoding: one word per command, written out from the rows of spec/30_encoding.md R149 (OP in bits 31:24, UNIT in
bits 23:16, IMM in bits 15:0) -/

/-- The packet decodes to the command. -/
def reads (cmd a b : Word) (i : Instr) : Bool :=
  match decode ⟨cmd, a, b⟩ with
  | .ok j => decide (j = i)
  | .error _ => false

/-- The packet is rejected for this reason. -/
def rejects (cmd : Word) (e : Reject) : Bool :=
  match decode ⟨cmd, 0#32, 0#32⟩ with
  | .ok _ => false
  | .error d => decide (d = e)

theorem test_decode_sys :
    reads 0x00000000#32 0x3F8CCCCD#32 0x40133333#32 .sysNop ∧
    reads 0x01000000#32 0x3F8CCCCD#32 0x40133333#32 .sysReset ∧
    reads 0x0E002009#32 0x3F8CCCCD#32 0x40133333#32 (.sysRdReg 8201) ∧
    reads 0x0F00300C#32 0x3F8CCCCD#32 0x40133333#32 (.sysWrReg 12300 0x3F8CCCCD#32) := by decide

theorem test_decode_dl :
    reads 0x100C0000#32 0x3F8CCCCD#32 0x40133333#32 (.dlSetDelay 12 0x3F8CCCCD#32) ∧
    reads 0x11310000#32 0x3F8CCCCD#32 0x40133333#32 (.dlTick 49 0x3F8CCCCD#32) ∧
    reads 0x12560000#32 0x3F8CCCCD#32 0x40133333#32 (.dlLastOut 86) ∧
    reads 0x137B0000#32 0x3F8CCCCD#32 0x40133333#32 (.dlClear 123) ∧
    reads 0x14A00000#32 0x3F8CCCCD#32 0x40133333#32 (.dlBufRd 160 0x3F8CCCCD#32) ∧
    reads 0x1EC55113#32 0x3F8CCCCD#32 0x40133333#32 (.dlRdReg 197 20755) := by decide

theorem test_decode_op :
    reads 0x20170000#32 0x3F8CCCCD#32 0x40133333#32 (.opSetPole 23 0x3F8CCCCD#32) ∧
    reads 0x213C0000#32 0x3F8CCCCD#32 0x40133333#32 (.opSetGain 60 0x3F8CCCCD#32) ∧
    reads 0x22610000#32 0x3F8CCCCD#32 0x40133333#32 (.opTick 97 0x3F8CCCCD#32) ∧
    reads 0x23860000#32 0x3F8CCCCD#32 0x40133333#32 (.opClear 134) ∧
    reads 0x24AB0000#32 0x3F8CCCCD#32 0x40133333#32 (.opLastOut 171) ∧
    reads 0x2ED05214#32 0x3F8CCCCD#32 0x40133333#32 (.opRdReg 208 21012) := by decide

theorem test_decode_oz :
    reads 0x30220000#32 0x3F8CCCCD#32 0x40133333#32 (.ozSetZero 34 0x3F8CCCCD#32) ∧
    reads 0x31470000#32 0x3F8CCCCD#32 0x40133333#32 (.ozSetGain 71 0x3F8CCCCD#32) ∧
    reads 0x326C0000#32 0x3F8CCCCD#32 0x40133333#32 (.ozTick 108 0x3F8CCCCD#32) ∧
    reads 0x33910000#32 0x3F8CCCCD#32 0x40133333#32 (.ozClear 145) ∧
    reads 0x34B60000#32 0x3F8CCCCD#32 0x40133333#32 (.ozLastOut 182) ∧
    reads 0x3EDB5315#32 0x3F8CCCCD#32 0x40133333#32 (.ozRdReg 219 21269) := by decide

theorem test_decode_pz :
    reads 0x402D0000#32 0x3F8CCCCD#32 0x40133333#32 (.pzSetA1 45 0x3F8CCCCD#32) ∧
    reads 0x41520000#32 0x3F8CCCCD#32 0x40133333#32 (.pzSetB0 82 0x3F8CCCCD#32) ∧
    reads 0x42770000#32 0x3F8CCCCD#32 0x40133333#32 (.pzSetB1 119 0x3F8CCCCD#32) ∧
    reads 0x439C0000#32 0x3F8CCCCD#32 0x40133333#32 (.pzSetBlockZero 156 0x3F8CCCCD#32) ∧
    reads 0x44C10000#32 0x3F8CCCCD#32 0x40133333#32 (.pzTick 193 0x3F8CCCCD#32) ∧
    reads 0x45E60000#32 0x3F8CCCCD#32 0x40133333#32 (.pzClear 230) ∧
    reads 0x460B0000#32 0x3F8CCCCD#32 0x40133333#32 (.pzLastOut 11) ∧
    reads 0x4E30741C#32 0x3F8CCCCD#32 0x40133333#32 (.pzRdReg 48 29724) := by decide

theorem test_decode_bq :
    reads 0x50380000#32 0x3F8CCCCD#32 0x40133333#32 (.bqSetFreqReson 56 0x3F8CCCCD#32 0x40133333#32) ∧
    reads 0x515D0000#32 0x3F8CCCCD#32 0x40133333#32 (.bqSetEqualGainZeroes 93) ∧
    reads 0x52820000#32 0x3F8CCCCD#32 0x40133333#32 (.bqTick 130 0x3F8CCCCD#32) ∧
    reads 0x53A70000#32 0x3F8CCCCD#32 0x40133333#32 (.bqClear 167) ∧
    reads 0x54CC0000#32 0x3F8CCCCD#32 0x40133333#32 (.bqLastOut 204) ∧
    reads 0x55F15517#32 0x3F8CCCCD#32 0x40133333#32 (.bqSetCoef 241 21783 0x3F8CCCCD#32) ∧
    reads 0x5E16651A#32 0x3F8CCCCD#32 0x40133333#32 (.bqRdReg 22 25882) := by decide

theorem test_decode_bow :
    reads 0x60430000#32 0x3F8CCCCD#32 0x40133333#32 (.bowSetOffset 67 0x3F8CCCCD#32) ∧
    reads 0x61680000#32 0x3F8CCCCD#32 0x40133333#32 (.bowSetSlope 104 0x3F8CCCCD#32) ∧
    reads 0x628D0000#32 0x3F8CCCCD#32 0x40133333#32 (.bowTick 141 0x3F8CCCCD#32) ∧
    reads 0x6EB23612#32 0x3F8CCCCD#32 0x40133333#32 (.bowRdReg 178 13842) := by decide

theorem test_decode_reed :
    reads 0x704E0000#32 0x3F8CCCCD#32 0x40133333#32 (.reedSetOffset 78 0x3F8CCCCD#32) ∧
    reads 0x71730000#32 0x3F8CCCCD#32 0x40133333#32 (.reedSetSlope 115 0x3F8CCCCD#32) ∧
    reads 0x72980000#32 0x3F8CCCCD#32 0x40133333#32 (.reedTick 152 0x3F8CCCCD#32) ∧
    reads 0x7EBD3713#32 0x3F8CCCCD#32 0x40133333#32 (.reedRdReg 189 14099) := by decide

theorem test_decode_jet :
    reads 0x82590000#32 0x3F8CCCCD#32 0x40133333#32 (.jetTick 89 0x3F8CCCCD#32) ∧
    reads 0x8E7E180E#32 0x3F8CCCCD#32 0x40133333#32 (.jetRdReg 126 6158) := by decide

theorem test_decode_lip :
    reads 0x90640000#32 0x3F8CCCCD#32 0x40133333#32 (.lipSetFreqReson 100 0x3F8CCCCD#32 0x40133333#32) ∧
    reads 0x91890000#32 0x3F8CCCCD#32 0x40133333#32 (.lipSetEqualGainZeroes 137) ∧
    reads 0x92AE0000#32 0x3F8CCCCD#32 0x40133333#32 (.lipTick 174 0x3F8CCCCD#32 0x40133333#32) ∧
    reads 0x93D30000#32 0x3F8CCCCD#32 0x40133333#32 (.lipClear 211) ∧
    reads 0x94F80000#32 0x3F8CCCCD#32 0x40133333#32 (.lipLastOut 248) ∧
    reads 0x951D591B#32 0x3F8CCCCD#32 0x40133333#32 (.lipSetCoef 29 22811 0x3F8CCCCD#32) ∧
    reads 0x9E42691E#32 0x3F8CCCCD#32 0x40133333#32 (.lipRdReg 66 26910) := by decide

theorem test_decode_env :
    reads 0xA06F0000#32 0x3F8CCCCD#32 0x40133333#32 (.envSetRate 111 0x3F8CCCCD#32) ∧
    reads 0xA1940000#32 0x3F8CCCCD#32 0x40133333#32 (.envSetTarget 148 0x3F8CCCCD#32) ∧
    reads 0xA2B90000#32 0x3F8CCCCD#32 0x40133333#32 (.envSetValue 185 0x3F8CCCCD#32) ∧
    reads 0xA3DE0000#32 0x3F8CCCCD#32 0x40133333#32 (.envKeyOn 222) ∧
    reads 0xA4030000#32 0x3F8CCCCD#32 0x40133333#32 (.envKeyOff 3) ∧
    reads 0xA5280000#32 0x3F8CCCCD#32 0x40133333#32 (.envTick 40) ∧
    reads 0xAE4D6A1F#32 0x3F8CCCCD#32 0x40133333#32 (.envRdReg 77 27167) := by decide

theorem test_decode_adsr :
    reads 0xB07A0000#32 0x3F8CCCCD#32 0x40133333#32 (.adsrSetAttack 122 0x3F8CCCCD#32) ∧
    reads 0xB19F0000#32 0x3F8CCCCD#32 0x40133333#32 (.adsrSetDecay 159 0x3F8CCCCD#32) ∧
    reads 0xB2C40000#32 0x3F8CCCCD#32 0x40133333#32 (.adsrSetSustain 196 0x3F8CCCCD#32) ∧
    reads 0xB3E90000#32 0x3F8CCCCD#32 0x40133333#32 (.adsrSetRelease 233 0x3F8CCCCD#32) ∧
    reads 0xB40E0000#32 0x3F8CCCCD#32 0x40133333#32 (.adsrKeyOn 14) ∧
    reads 0xB5330000#32 0x3F8CCCCD#32 0x40133333#32 (.adsrKeyOff 51) ∧
    reads 0xB6580000#32 0x3F8CCCCD#32 0x40133333#32 (.adsrTick 88) ∧
    reads 0xBE7D7B23#32 0x3F8CCCCD#32 0x40133333#32 (.adsrRdReg 125 31523) := by decide

theorem test_decode_ns :
    reads 0xC0850000#32 0x3F8CCCCD#32 0x40133333#32 (.nsSeed 133 0x3F8CCCCD#32) ∧
    reads 0xC1AA0000#32 0x3F8CCCCD#32 0x40133333#32 (.nsTick 170) ∧
    reads 0xCECF2C15#32 0x3F8CCCCD#32 0x40133333#32 (.nsRdReg 207 11285) := by decide

theorem test_decode_osc :
    reads 0xD0900000#32 0x3F8CCCCD#32 0x40133333#32 (.oscSetFreq 144 0x3F8CCCCD#32) ∧
    reads 0xD1B50000#32 0x3F8CCCCD#32 0x40133333#32 (.oscReset 181) ∧
    reads 0xD2DA0000#32 0x3F8CCCCD#32 0x40133333#32 (.oscTick 218) ∧
    reads 0xD3FF3D19#32 0x3F8CCCCD#32 0x40133333#32 (.oscTblWr 255 15641 0x3F8CCCCD#32) ∧
    reads 0xD4244D1C#32 0x3F8CCCCD#32 0x40133333#32 (.oscTblRd 36 19740) ∧
    reads 0xDE495D1F#32 0x3F8CCCCD#32 0x40133333#32 (.oscRdReg 73 23839) := by decide

theorem test_decode_voice :
    reads 0xE0000000#32 0x3F8CCCCD#32 0x40133333#32 (.vNoteOn 0x3F8CCCCD#32 0x40133333#32) ∧
    reads 0xE1000000#32 0x3F8CCCCD#32 0x40133333#32 (.vNoteOff 0x3F8CCCCD#32) ∧
    reads 0xE2000000#32 0x3F8CCCCD#32 0x40133333#32 (.vSetFreq 0x3F8CCCCD#32) ∧
    reads 0xE3000000#32 0x3F8CCCCD#32 0x40133333#32 .vTick ∧
    reads 0xE4004E1D#32 0x3F8CCCCD#32 0x40133333#32 (.vCc 19997 0x3F8CCCCD#32) ∧
    reads 0xE5005E20#32 0x3F8CCCCD#32 0x40133333#32 (.vSetInstr 24096) ∧
    reads 0xE6000000#32 0x3F8CCCCD#32 0x40133333#32 .vReset ∧
    reads 0xE7000000#32 0x3F8CCCCD#32 0x40133333#32 .vLastOut ∧
    reads 0xEE008E29#32 0x3F8CCCCD#32 0x40133333#32 (.vRdReg 36393) ∧
    reads 0xEF009E2C#32 0x3F8CCCCD#32 0x40133333#32 (.vWrReg 40492 0x3F8CCCCD#32) := by decide

theorem test_decode_rejects_by_name :
    rejects 0xF0000000#32 .reservedOpcode ∧ rejects 0x15000000#32 .reservedOpcode ∧
    rejects 0x80000000#32 .reservedOpcode ∧ rejects 0x00010000#32 .unitNotZero ∧
    rejects 0xE3FF0000#32 .unitNotZero ∧ rejects 0x11000001#32 .immNotZero ∧
    rejects 0xE30100FF#32 .unitNotZero := by decide

/-- No two rows of the opcode map share an opcode. -/
theorem test_opcodes_are_distinct : opcodeMap.Pairwise (fun r q => r.op ≠ q.op) := by decide

theorem test_decodeTableWord :
    decodeTableWord 96 0x3F4CCCCD43DC0000E0000000 = some (.vNoteOn 0x43DC0000#32 0x3F4CCCCD#32) ∧
    decodeTableWord 32 0x0E000005 = some (.sysRdReg 5) ∧ decodeTableWord 32 0xF0000000 = none := by decide

/-! ## Single steps: R, WARN and a field or two -/

/-- The command answers `r` with the warnings `w`, and the state it leaves has the property. -/
def gives (i : Instr) (s : State) (r : Word) (w : BitVec 8) (holds : State → Bool := fun _ => true) : Bool :=
  match exec i s with
  | .next t => t.rspR == r && t.rspWarn == w && holds t
  | .fault _ => false
  | .refused _ => false

/-- The state a command leaves. -/
def after (i : Instr) (s : State) : State :=
  match exec i s with
  | .next t => t
  | .fault _ => s
  | .refused _ => s

/-- The reset block with an instrument selected and nothing configured. -/
def voiced (i : Instrument) : State := { State.reset with voice := { Voice.reset with instr := i } }

/-! ### SYS (spec/95_test_vectors.md L3, P2) -/

theorem test_sys_nop : gives .sysNop { State.reset with status := 4#8 } 0#32 0#8 (fun t => t.status == 4#8) := by decide

theorem test_sys_reset :
    gives .sysReset { State.reset with status := 0x42#8, irqEn := 0x40#8, lastWarn := 7#4, tickCount := 9#32, irq := true,
                                       ns := [{ state := 5#32, last := 0#32 }] } 0#32 0#8
      (fun t => decide ({ t with cmdReady := true, rspValid := false } = State.reset)) := by decide

theorem test_sys_rdreg :
    gives (.sysRdReg 0) State.reset 0x53574701#32 0#8 ∧ gives (.sysRdReg 5) State.reset 0x01010202#32 0#8 ∧
    gives (.sysRdReg 8) State.reset 1#32 0#8 ∧ gives (.sysRdReg 9) State.reset 0x472C4400#32 0#8 ∧
    gives (.sysRdReg 10) State.reset 0#32 0x40#8 (fun t => t.status == 0x40#8 && t.lastWarn == 7#4) := by decide

theorem test_sys_wrreg_clears_the_bits_written_one :
    gives (.sysWrReg 1 0x40#32) { State.reset with status := 0x41#8, irqEn := 0x40#8, irq := true } 0#32 0#8
      (fun t => t.status == 0x01#8 && !t.irq) := by decide

theorem test_sys_wrreg_read_only : gives (.sysWrReg 0 1#32) { State.reset with irqEn := 0x40#8 } 0#32 0x40#8
    (fun t => t.irq) := by decide

/-! ### DL (L2-DL) -/

theorem test_dl_setdelay :
    gives (.dlSetDelay 0 0x40100000#32) State.reset 0#32 0#8
      (fun t => decide ([(t.dlAt 0).lag, (t.dlAt 0).alpha, (t.dlAt 0).omalpha] = [0x40100000#32, 0x3F400000#32, 0x3E800000#32])
        && (t.dlAt 0).rptr == 880) ∧
    gives (.dlSetDelay 0 0x322BCC77#32) State.reset 0#32 0#8
      (fun t => (t.dlAt 0).alpha == 0x3F800000#32 && (t.dlAt 0).rptr == 882) := by decide +kernel

theorem test_dl_setdelay_clamps :
    gives (.dlSetDelay 0 0x447A0000#32) State.reset 0#32 1#8
      (fun t => (t.dlAt 0).lag == 0x445C8000#32 && (t.dlAt 0).rptr == 1) ∧
    gives (.dlSetDelay 0 0x7FC00000#32) State.reset 0#32 1#8 (fun t => (t.dlAt 0).lag == 0#32) ∧
    gives (.dlSetDelay 0 0x80000000#32) State.reset 0#32 0#8 (fun t => (t.dlAt 0).lag == 0#32) := by decide +kernel

/-- A line of 883 words with lag 2.25, two ticks after the impulse. -/
def impulse : DelayLine :=
  { DelayLine.reset 883 with lag := 0x40100000#32, wptr := 2, rptr := 882, alpha := 0x3F400000#32,
                             omalpha := 0x3E800000#32, last := 0x3E000000#32, buf := [(0, 0x3F800000#32)] }

def withLine : State := { State.reset with dl := [impulse, DelayLine.reset 8] }

theorem test_dl_tick : gives (.dlTick 0 0#32) withLine 0x3F400000#32 0#8
    (fun t => (t.dlAt 0).wptr == 3 && (t.dlAt 0).rptr == 0) := by decide +kernel

theorem test_dl_tick_reads_what_it_wrote : gives (.dlTick 1 0x3F000000#32) withLine 0x3F000000#32 0#8
    (fun t => decide (t.dlAt 0 = impulse)) := by decide +kernel

theorem test_dl_lastout : gives (.dlLastOut 0) withLine 0x3E000000#32 0#8 := by decide

theorem test_dl_clear : gives (.dlClear 0) withLine 0#32 0#8
    (fun t => decide (t.dlAt 0 = { impulse with buf := [], last := 0#32 })) := by decide

theorem test_dl_bufrd : gives (.dlBufRd 0 0#32) withLine 0x3F800000#32 0#8 ∧
    gives (.dlBufRd 0 883#32) withLine 0#32 0x40#8 := by decide

theorem test_dl_rdreg : gives (.dlRdReg 0 2) withLine 0x372#32 0#8 ∧ gives (.dlRdReg 0 6) withLine 0x373#32 0#8 ∧
    gives (.dlRdReg 2 0) withLine 0#32 0x40#8 := by decide

/-! ### OP (L2-OP) -/

/-- POLE 0.5 and LAST 0.5. -/
def onePole : OnePole := { OnePole.reset with pole := 0x3F000000#32, sgain := 0x3F000000#32, last := 0x3F000000#32 }

def withOnePole : State := { State.reset with op := [onePole, OnePole.reset] }

theorem test_op_setpole : gives (.opSetPole 0 0x3F666666#32) State.reset 0#32 0#8
    (fun t => (t.opAt 0).sgain == 0x3DCCCCD0#32) := by decide +kernel

theorem test_op_setgain : gives (.opSetGain 0 0x40000000#32) withOnePole 0#32 0#8
    (fun t => (t.opAt 0).sgain == 0x3F800000#32 && (t.opAt 0).pole == 0x3F000000#32) := by decide +kernel

theorem test_op_tick : gives (.opTick 0 0x3F800000#32) withOnePole 0x3F400000#32 0#8
    (fun t => (t.opAt 0).last == 0x3F400000#32) := by decide +kernel

theorem test_op_clear : gives (.opClear 0) withOnePole 0#32 0#8
    (fun t => decide (t.opAt 0 = { onePole with last := 0#32 })) := by decide

theorem test_op_reads : gives (.opLastOut 0) withOnePole 0x3F000000#32 0#8 ∧ gives (.opRdReg 0 2) withOnePole 0x3F000000#32 0#8 ∧
    gives (.opRdReg 0 4) withOnePole 0#32 0x40#8 := by decide

/-! ### OZ (L2-OZ) -/

/-- The two-point average after an input of 1.0. -/
def oneZero : OneZero :=
  { OneZero.reset with zero := 0xBF800000#32, b0 := 0x3F000000#32, b1 := 0x3F000000#32, x1 := 0x3F800000#32,
                       last := 0x3E800000#32 }

def withOneZero : State := { State.reset with oz := [oneZero] }

theorem test_oz_setzero : gives (.ozSetZero 0 0x3F000000#32) State.reset 0#32 0#8
    (fun t => (t.ozAt 0).b0 == 0x3F2AAAAB#32 && (t.ozAt 0).b1 == 0xBEAAAAAB#32) := by decide +kernel

theorem test_oz_setgain : gives (.ozSetGain 0 0x3F733333#32) withOneZero 0#32 0#8
    (fun t => (t.ozAt 0).b0 == 0x3EF33333#32 && (t.ozAt 0).b1 == 0x3EF33333#32) := by decide +kernel

theorem test_oz_tick : gives (.ozTick 0 0x3F800000#32) withOneZero 0x3F800000#32 0#8 ∧
    gives (.ozTick 0 0#32) withOneZero 0x3F000000#32 0#8 (fun t => (t.ozAt 0).x1 == 0#32) := by decide +kernel

theorem test_oz_clear : gives (.ozClear 0) withOneZero 0#32 0#8
    (fun t => decide (t.ozAt 0 = { oneZero with x1 := 0#32, last := 0#32 })) := by decide

theorem test_oz_reads : gives (.ozLastOut 0) withOneZero 0x3E800000#32 0#8 ∧
    gives (.ozRdReg 0 4) withOneZero 0x3F800000#32 0#8 := by decide

/-! ### PZ (L2-PZ) -/

/-- The DC blocker after two inputs of 1.0. -/
def poleZero : PoleZero :=
  { a1 := 0x3F7D70A4#32, b0 := 0x3F800000#32, b1 := 0xBF800000#32, x1 := 0x3F800000#32, last := 0x3F7D70A4#32 }

def withPoleZero : State := { State.reset with pz := [poleZero] }

theorem test_pz_coefficients :
    gives (.pzSetA1 0 0x3F000000#32) withPoleZero 0#32 0#8 (fun t => (t.pzAt 0).a1 == 0x3F000000#32) ∧
    gives (.pzSetB0 0 0x40000000#32) withPoleZero 0#32 0#8 (fun t => (t.pzAt 0).b0 == 0x40000000#32) ∧
    gives (.pzSetB1 0 0x7FC12345#32) withPoleZero 0#32 0#8 (fun t => (t.pzAt 0).b1 == 0x7FC00000#32) := by decide

theorem test_pz_setblockzero : gives (.pzSetBlockZero 0 0x3F7D70A4#32) State.reset 0#32 0#8
    (fun t => decide (t.pzAt 0 = { poleZero with x1 := 0#32, last := 0#32 })) := by decide

theorem test_pz_tick : gives (.pzTick 0 0x3F800000#32) withPoleZero 0x3F7AE7D6#32 0#8 := by decide +kernel

theorem test_pz_clear : gives (.pzClear 0) withPoleZero 0#32 0#8
    (fun t => decide (t.pzAt 0 = { poleZero with x1 := 0#32, last := 0#32 })) := by decide

theorem test_pz_reads : gives (.pzLastOut 0) withPoleZero 0x3F7D70A4#32 0#8 ∧
    gives (.pzRdReg 0 2) withPoleZero 0xBF800000#32 0#8 := by decide

/-! ### BQ (L2-BQ, P2) -/

/-- A1 0.5, after ticks of 1.0, 0.0, 0.0. -/
def biquad : Biquad :=
  { Biquad.reset with a1 := 0x3F000000#32, w1 := 0x3E800000#32, w2 := 0x3F000000#32, last := 0x3E800000#32 }

def withBiquad : State := { State.reset with bq := [biquad] }

theorem test_bq_setfreqreson : gives (.bqSetFreqReson 0 0x447A0000#32 0x3F666666#32) State.reset 0#32 0#8
    (fun t => (t.bqAt 0).a1 == 0x3FE410C2#32 && (t.bqAt 0).a2 == 0xBF4F5C28#32) := by decide +kernel

theorem test_bq_setequalgainzeroes : gives (.bqSetEqualGainZeroes 0) withBiquad 0#32 0#8
    (fun t => decide (t.bqAt 0 = { biquad with b2 := 0xBF800000#32 })) := by decide

theorem test_bq_tick :
    gives (.bqTick 0 0#32) { State.reset with bq := [{ biquad with w1 := 0x3F000000#32, w2 := 0x3F800000#32 }] }
      0x3E800000#32 0#8 (fun t => decide (t.bqAt 0 = biquad)) := by decide +kernel

theorem test_bq_clear : gives (.bqClear 0) withBiquad 0#32 0#8
    (fun t => decide (t.bqAt 0 = { biquad with w1 := 0#32, w2 := 0#32, last := 0#32 })) := by decide

theorem test_bq_setcoef : gives (.bqSetCoef 0 2 0x3F800000#32) withBiquad 0#32 0#8
    (fun t => (t.bqAt 0).b2 == 0x3F800000#32) ∧ gives (.bqSetCoef 0 5 0x3F800000#32) withBiquad 0#32 0x40#8 := by decide

theorem test_bq_reads : gives (.bqLastOut 0) withBiquad 0x3E800000#32 0#8 ∧
    gives (.bqRdReg 0 6) withBiquad 0x3F000000#32 0#8 ∧ gives (.bqRdReg 0 3) withBiquad 0x3F000000#32 0#8 := by decide

/-! ### BOW, REED, JET and LIP (L2-BOW to L2-LIP) -/

theorem test_bow_setters : gives (.bowSetOffset 0 0x3F000000#32) State.reset 0#32 0#8
      (fun t => (t.bowAt 0).offset == 0x3F000000#32) ∧
    gives (.bowSetSlope 0 0x40400000#32) State.reset 0#32 0#8 (fun t => (t.bowAt 0).slope == 0x40400000#32) := by decide

theorem test_bow_tick : gives (.bowTick 0 0xC1200000#32) State.reset 0x3DDA5CC3#32 0#8 ∧
    gives (.bowTick 0 0#32) State.reset 0x3F800000#32 0#8 := by decide +kernel

theorem test_bow_tick_not_finite : gives (.bowTick 0 0x7F800000#32) State.reset 0#32 0#8 ∧
    gives (.bowTick 0 0x7FC00000#32) State.reset 0x7FC00000#32 0#8 := by decide +kernel

theorem test_bow_rdreg : gives (.bowRdReg 0 1) State.reset 0x3DCCCCCD#32 0#8 := by decide

theorem test_reed_setters : gives (.reedSetOffset 0 0x3F333333#32) State.reset 0#32 0#8
      (fun t => (t.reedAt 0).offset == 0x3F333333#32) ∧
    gives (.reedSetSlope 0 0xBE99999A#32) State.reset 0#32 0#8 (fun t => (t.reedAt 0).slope == 0xBE99999A#32) := by decide

theorem test_reed_tick : gives (.reedTick 0 0x3F000000#32) State.reset 0x3E4CCCCE#32 0#8 ∧
    gives (.reedTick 0 0x40000000#32) State.reset 0xBF800000#32 0#8 ∧
    gives (.reedTick 0 0xBF800000#32) State.reset 0x3F800000#32 0#8 := by decide +kernel

theorem test_reed_rdreg : gives (.reedRdReg 0 0) State.reset 0x3F19999A#32 0#8 := by decide

theorem test_jet_tick : gives (.jetTick 0 0x3E99999A#32) State.reset 0xBE8BC6A8#32 0#8 ∧
    gives (.jetTick 0 0#32) State.reset 0x80000000#32 0#8 ∧ gives (.jetTick 0 0x3FB33333#32) State.reset 0x3F800000#32 0#8 := by
  decide +kernel

theorem test_jet_rdreg : gives (.jetRdReg 0 0) { State.reset with jet := [{ last := 7#32 }] } 7#32 0#8 ∧
    gives (.jetRdReg 0 1) State.reset 0#32 0x40#8 := by decide

/-- The lip after `LIP.SETFREQRESON a=1000.0, b=0.9`. -/
def withLip : State :=
  { State.reset with lip := [{ filter := { Biquad.reset with a1 := 0x3FE410C2#32, a2 := 0xBF4F5C28#32, w1 := 0x3F000000#32,
                                                             last := 0x3F000000#32 },
                               last := 0x3E000000#32 }] }

theorem test_lip_setfreqreson : gives (.lipSetFreqReson 0 0x447A0000#32 0x3F666666#32) State.reset 0#32 0#8
    (fun t => (t.lipAt 0).filter.a1 == 0x3FE410C2#32 && (t.lipAt 0).filter.a2 == 0xBF4F5C28#32) := by decide +kernel

theorem test_lip_tick : gives (.lipTick 0 0x3F000000#32 0x3E800000#32) State.reset 0x3E880000#32 0#8 ∧
    gives (.lipTick 0 0x40000000#32 0#32) State.reset 0x40000000#32 0#8 := by decide +kernel

/-- The second of the three ticks of L2-LIP. -/
theorem test_lip_tick_resonates : gives (.lipTick 0 0x3F000000#32 0#32) withLip 0x3F000000#32 0#8
    (fun t => (t.lipAt 0).filter.w1 == 0x3FB20861#32) := by decide +kernel

theorem test_lip_clear : gives (.lipClear 0) withLip 0#32 0#8
    (fun t => (t.lipAt 0).filter.w1 == 0#32 && (t.lipAt 0).filter.last == 0#32 && (t.lipAt 0).last == 0#32 &&
      (t.lipAt 0).filter.a1 == 0x3FE410C2#32) := by decide

theorem test_lip_coefficients : gives (.lipSetCoef 0 4 0x3F800000#32) withLip 0#32 0#8
      (fun t => (t.lipAt 0).filter.a2 == 0x3F800000#32) ∧
    gives (.lipSetEqualGainZeroes 0) withLip 0#32 0#8 (fun t => (t.lipAt 0).filter.b2 == 0xBF800000#32) := by decide

theorem test_lip_reads : gives (.lipLastOut 0) withLip 0x3E000000#32 0#8 ∧
    gives (.lipRdReg 0 7) withLip 0x3F000000#32 0#8 ∧ gives (.lipRdReg 0 8) withLip 0x3E000000#32 0#8 := by decide

/-! ### ENV and ADSR (L2-ENV, L2-ADSR) -/

/-- VALUE 0.75 on the way to 1.0 at 0.25. -/
def ramping : State :=
  { State.reset with env := [{ value := 0x3F400000#32, target := 0x3F800000#32, rate := 0x3E800000#32, state := .ramp }] }

theorem test_env_setrate : gives (.envSetRate 0 0xBE800000#32) State.reset 0#32 0x20#8
    (fun t => (t.envAt 0).rate == 0x3E800000#32) := by decide

theorem test_env_settarget : gives (.envSetTarget 0 0x7FC00000#32) ramping 0#32 0x20#8
      (fun t => decide (t.env = ramping.env)) ∧
    gives (.envSetTarget 0 0x3F400000#32) ramping 0#32 0#8 (fun t => decide ((t.envAt 0).state = .done)) := by decide

theorem test_env_setvalue : gives (.envSetValue 0 0x3F000000#32) ramping 0#32 0#8
    (fun t => decide (t.envAt 0 = { value := 0x3F000000#32, target := 0x3F000000#32, rate := 0x3E800000#32, state := .done })) := by
  decide

theorem test_env_keys : gives (.envKeyOn 0) State.reset 0#32 0#8 (fun t => decide ((t.envAt 0).state = .ramp)) ∧
    gives (.envKeyOff 0) State.reset 0#32 0#8 (fun t => decide ((t.envAt 0).state = .done)) := by decide

theorem test_env_tick : gives (.envTick 0) ramping 0x3F800000#32 0#8 (fun t => decide ((t.envAt 0).state = .done)) := by
  decide +kernel

theorem test_env_tick_meets_the_target :
    gives (.envTick 0)
      { State.reset with
        env := [{ value := 0x3E99999A#32, target := 0x3F000000#32, rate := 0x3E99999A#32, state := .ramp }] }
      0x3F000000#32 0#8 := by decide +kernel

theorem test_env_rdreg : gives (.envRdReg 0 3) ramping 1#32 0#8 ∧ gives (.envRdReg 0 0) ramping 0x3F400000#32 0#8 := by decide

/-- An ADSR unit with ATTACK 0.5, DECAY 0.25, SUSTAIN 0.5, RELEASE 0.25. -/
def adsrIn (st : AdsrState) (v : F32) : Adsr :=
  { value := v, target := 0#32, state := st, attack := 0x3F000000#32, decay := 0x3E800000#32, sustain := 0x3F000000#32,
    release := 0x3E800000#32 }

def withAdsr (st : AdsrState) (v : F32) : State := { State.reset with adsr := [adsrIn st v] }

theorem test_adsr_rates :
    gives (.adsrSetAttack 0 0x7FC00000#32) State.reset 0#32 0x20#8 (fun t => (t.adsrAt 0).attack == 0#32) ∧
    gives (.adsrSetDecay 0 0x3E800000#32) State.reset 0#32 0#8 (fun t => (t.adsrAt 0).decay == 0x3E800000#32) ∧
    gives (.adsrSetRelease 0 0xBE800000#32) State.reset 0#32 0x20#8 (fun t => (t.adsrAt 0).release == 0x3E800000#32) := by
  decide

theorem test_adsr_setsustain : gives (.adsrSetSustain 0 0x3FC00000#32) State.reset 0#32 0x20#8
      (fun t => (t.adsrAt 0).sustain == 0x3F800000#32 && decide ((t.adsrAt 0).state = .idle)) ∧
    gives (.adsrSetSustain 0 0x3F400000#32) (withAdsr .sustain 0x3F000000#32) 0#32 0#8
      (fun t => decide ((t.adsrAt 0).state = .decay)) := by decide

theorem test_adsr_keys :
    gives (.adsrKeyOn 0) State.reset 0#32 0#8 (fun t => decide ((t.adsrAt 0).state = .attack)) ∧
    gives (.adsrKeyOff 0) State.reset 0#32 0#8 (fun t => decide ((t.adsrAt 0).state = .release)) := by decide

theorem test_adsr_tick_up :
    gives (.adsrTick 0) (withAdsr .attack 0x3F000000#32) 0x3F800000#32 0#8 (fun t => decide ((t.adsrAt 0).state = .decay)) ∧
    gives (.adsrTick 0) (withAdsr .decay 0x3F800000#32) 0x3F400000#32 0#8 (fun t => decide ((t.adsrAt 0).state = .decay)) := by
  decide +kernel

theorem test_adsr_tick_down :
    gives (.adsrTick 0) (withAdsr .decay 0x3F400000#32) 0x3F000000#32 0#8
      (fun t => decide ((t.adsrAt 0).state = .sustain)) ∧
    gives (.adsrTick 0) (withAdsr .release 0x3E800000#32) 0#32 0#8 (fun t => decide ((t.adsrAt 0).state = .idle)) := by
  decide +kernel

theorem test_adsr_rdreg : gives (.adsrRdReg 0 2) State.reset 4#32 0#8 ∧
    gives (.adsrRdReg 0 5) State.reset 0x3F000000#32 0#8 := by decide

/-! ### NS and OSC (L2-NS, L2-OSC) -/

theorem test_ns_seed : gives (.nsSeed 0 0x12345678#32) State.reset 0#32 0#8
      (fun t => (t.nsAt 0).state == 0x12345678#32) ∧
    gives (.nsSeed 0 0#32) State.reset 0#32 0x20#8 (fun t => (t.nsAt 0).state == 1#32) := by decide

theorem test_ns_tick : gives (.nsTick 0) State.reset 0x39040420#32 0#8 (fun t => (t.nsAt 0).state == 0x00042021#32) ∧
    gives (.nsTick 0) { State.reset with ns := [{ state := 0x12345678#32, last := 0#32 }] } 0xBF70CF4B#32 0#8
      (fun t => (t.nsAt 0).state == 0x87985AA5#32) := by decide +kernel

theorem test_ns_sample_bounds : noiseSample 0x7FFFFFC0#32 = 0x3F800000#32 ∧ noiseSample 0x80000000#32 = 0xBF800000#32 := by
  decide +kernel

theorem test_ns_rdreg : gives (.nsRdReg 0 0) State.reset 1#32 0#8 := by decide

theorem test_osc_setfreq :
    gives (.oscSetFreq 0 0x43DC0000#32) State.reset 0#32 0#8 (fun t => (t.oscAt 0).rate == 0x402377EE#32) ∧
    gives (.oscSetFreq 0 0x46EA6000#32) State.reset 0#32 0x20#8
      (fun t => (t.oscAt 0).freq == 0x46AC4400#32 && (t.oscAt 0).rate == 0x43000000#32) := by decide +kernel

/-- TBL[1] 1.0, RATE 0.5, PHASE 0.5. -/
def withOsc : State :=
  { State.reset with osc := [{ Osc.reset 256 with rate := 0x3F000000#32, phase := 0x3F000000#32,
                                                  tbl := [(1, 0x3F800000#32)] }] }

theorem test_osc_tick : gives (.oscTick 0) withOsc 0x3F000000#32 0#8
    (fun t => (t.oscAt 0).phase == 0x3F800000#32) := by decide +kernel

/-- A RATE of -1e-6 from PHASE 0.0: the sum rounds to 256.0, so the phase is 0.0. -/
theorem test_osc_tick_phase_rounds_up :
    gives (.oscTick 0) { State.reset with osc := [{ Osc.reset 256 with rate := 0xB58637BD#32 }] } 0#32 0#8
      (fun t => (t.oscAt 0).phase == 0#32) := by decide +kernel

theorem test_osc_reset : gives (.oscReset 0) withOsc 0#32 0#8
    (fun t => (t.oscAt 0).phase == 0#32 && (t.oscAt 0).rate == 0x3F000000#32) := by decide

theorem test_osc_table : gives (.oscTblWr 0 1 0x40000000#32) withOsc 0#32 0#8
      (fun t => memRead (t.oscAt 0).tbl 1 == 0x40000000#32) ∧
    gives (.oscTblRd 0 1) withOsc 0x3F800000#32 0#8 ∧ gives (.oscTblRd 0 256) withOsc 0#32 0x40#8 ∧
    gives (.oscTblWr 0 256 0#32) withOsc 0#32 0x40#8 := by decide

theorem test_osc_rdreg : gives (.oscRdReg 0 4) State.reset 256#32 0#8 := by decide

/-! ### V (L2-V, L3, P4, P5) -/

/-- The Clarinet, as V.SETINSTR #1 leaves it. -/
def clarinet : State := after (.vSetInstr 1) State.reset

theorem test_v_setinstr :
    gives (.vSetInstr 1) State.reset 0#32 0#8
      (fun t => (t.dlAt 0).lag == 0x42C5745D#32 && (t.dlAt 0).rptr == 784 && (t.dlAt 0).alpha == 0x3E8BA300#32) ∧
    gives (.vSetInstr 0) State.reset 0#32 0#8
      (fun t => (t.dlAt 1).lag == 0x41C7F7FE#32 && (t.dlAt 1).rptr == 858 && t.voice.baseDelay == 0x4344745D#32) := by
  decide +kernel

theorem test_v_setinstr_of_no_instrument : gives (.vSetInstr 5) State.reset 0#32 0x40#8 := by decide

theorem test_v_setfreq :
    gives (.vSetFreq 0x43DC0000#32) clarinet 0#32 0#8
      (fun t => t.voice.baseDelay == 0x42C2745D#32 && (t.dlAt 0).rptr == 834) ∧
    gives (.vSetFreq 0#32) clarinet 0#32 0x02#8 (fun t => t.voice.freq == 0x435C0000#32) ∧
    gives (.vSetFreq 0x41F00000#32) clarinet 0#32 0x01#8 (fun t => (t.dlAt 0).rptr == 442) := by decide +kernel

theorem test_v_noteon :
    gives (.vNoteOn 0xBF800000#32 0x40000000#32) clarinet 0#32 0x06#8
      (fun t => t.voice.amp == 0x3F800000#32 && t.voice.freq == 0x435C0000#32 && (t.envAt 0).target == 0x3F59999A#32 &&
        t.lastWarn == 2#4 && decide (t.voice.vstate = .sounding)) := by decide +kernel

theorem test_v_noteoff :
    gives (.vNoteOff 0x3F800000#32) { clarinet with voice := { clarinet.voice with vstate := .sounding } } 0#32 0#8
      (fun t => (t.envAt 0).rate == 0x3C23D70A#32 && decide (t.voice.vstate = .releasing)) ∧
    gives (.vNoteOff 0x3E800000#32) (voiced .plucked) 0#32 0#8 (fun t => t.voice.loopGain == 0x3F400000#32) := by
  decide +kernel

/-- The first tick after V.NOTEON of program P3: one step of 0.005 of the envelope, one noise word. -/
theorem test_v_tick :
    gives .vTick (after (.vNoteOn 0x43DC0000#32 0x3F4CCCCD#32) clarinet) 0#32 0#8
      (fun t => t.tickCount == 1#32 && (t.envAt 0).value == 0x3BA3D70A#32 && (t.nsAt 0).state == 0x00042021#32 &&
        (t.dlAt 0).wptr == 1) := by decide +kernel

theorem test_v_tick_without_instrument : gives .vTick State.reset 0#32 0x80#8
    (fun t => t.tickCount == 0#32 && t.lastWarn == 8#4) := by decide

theorem test_v_cc :
    gives (.vCc 1 0x40000000#32) clarinet 0#32 0x08#8 (fun t => t.voice.vibGain == 0x3F000000#32) ∧
    gives (.vCc 2 0x3F000000#32) clarinet 0#32 0#8 (fun t => (t.reedAt 0).slope == 0xBE9EB852#32) ∧
    gives (.vCc 11 0x3F800000#32) clarinet 0#32 0#8 (fun t => (t.oscAt 0).rate == 0x3D8EA9D5#32) := by decide +kernel

theorem test_v_cc_unknown : gives (.vCc 7 0x3F000000#32) clarinet 0#32 0x10#8 := by decide +kernel

theorem test_v_reset : gives .vReset { clarinet with voice := { clarinet.voice with vstate := .sounding, amp := 1#32 } } 0#32 0#8
    (fun t => decide (t.voice = { clarinet.voice with vstate := .idle, amp := 0#32 })) := by decide +kernel

theorem test_v_lastout : gives .vLastOut { voiced .flute with voice := { Voice.reset with instr := .flute, last := 9#32 } }
    9#32 0#8 := by decide

theorem test_v_rdreg : gives (.vRdReg 0) State.reset 0xF#32 0#8 ∧ gives (.vRdReg 6) State.reset 0#32 0x40#8 ∧
    gives (.vRdReg 0) (voiced .plucked) 4#32 0#8 := by decide

theorem test_v_wrreg : gives (.vWrReg 21 0x3F800000#32) State.reset 0#32 0#8
      (fun t => decide (t.voice = { Voice.reset with loopGain := 0x3F800000#32 })) ∧
    gives (.vWrReg 1 0#32) State.reset 0#32 0x40#8 := by decide

/-! ## The step, and the assembler (spec/30_encoding.md R153, R154) -/

theorem test_withFetchWord : step (State.reset.withFetchWord 32 0xE3000000) = exec .vTick State.reset := rfl

theorem test_assembleText :
    assembleText "DL.SETDELAY u1, a=10.5   ; half a sample" = some [⟨0x10010000#32, 0x41280000#32, 0#32⟩] ∧
    assembleText "PZ.DCBLOCK" = some [⟨0x43000000#32, 0x3F7D70A4#32, 0#32⟩] := by decide +kernel

/-! ## A state and operands for every statement with hypotheses -/

/-- The state in which the host presents `DL.TICK u0, a=1.0` right after reset. -/
def ticking : State := State.reset.withFetchWord 96 0x000000003F80000011000000

theorem witness_DecodedCommandKeepsItsWord :
    decode ⟨0xD3FFFFFF#32, 1#32, 0#32⟩ = .ok (.oscTblWr 255 65535 1#32) := rfl

theorem witness_IllegalPacketsAreRefused :
    (0xF0 : Nat) ∉ opcodeMap.map (fun r => r.op.toNat) ∧ State.reset.dl.length ≤ ((0x11020000#32 : Word).extractLsb' 16 8).toNat ∧
    ((0x11000001#32 : Word).extractLsb' 0 16).toNat ≠ 0 := by decide

theorem witness_UnusedOperandWordsAreIgnored :
    ((0xE3000000#32 : Word).extractLsb' 24 8).toNat ∉ [0x50, 0x90, 0x92, 0xE0, 0x0F, 0xEF] := by decide

theorem witness_StepRunsTheDecodedCommand :
    (∃ p es, ticking.inbox = .command p :: es ∧ decode p = .ok (.dlTick 0 0x3F800000#32)) ∧
    (∃ p es, (State.reset.withFetchWord 32 0xF0000000).inbox = .command p :: es ∧ decode p = .error .reservedOpcode) ∧
    State.reset.inbox = [] ∧ { State.reset with inbox := [.idle] }.inbox = .idle :: [] ∧
    { State.reset with inbox := [.rst] }.inbox = .rst :: [] ∧
    { State.reset with inbox := [.abandoned ⟨0#32, 0#32, 0#32⟩] }.inbox = .abandoned ⟨0#32, 0#32, 0#32⟩ :: [] :=
  ⟨⟨_, _, rfl, rfl⟩, ⟨_, _, rfl, rfl⟩, rfl, rfl, rfl, rfl⟩

/-- Both latencies: as many inputs as the free value asks for, none where it asks for none. -/
theorem witness_AcceptedPacketAnswersOnceAfterLatency :
    let c : Clocked := { block := State.reset, phase := .ready, served := 0 }
    let quiet : PortIn := { rst := false, cmdValid := false, packet := ⟨0#32, 0#32, 0#32⟩ }
    let ins := List.replicate (Config.latencyLessOne c.served) quiet
    c.phase = .ready ∧ (∃ t, runPacket ⟨0#32, 0#32, 0#32⟩ c.block = .next t) ∧ (∀ j ∈ ins, j.rst = false) ∧
    quiet.rst = false ∧ ins.length = Config.latencyLessOne c.served := by
  refine ⟨rfl, ⟨_, rfl⟩, ?_, rfl, by simp⟩
  intro j hj
  rw [List.eq_of_mem_replicate hj]

theorem witness_BothResetsLeaveTheResetState :
    { State.reset with inbox := [.rst] }.inbox = .rst :: [] ∧
    buildKept (State.ofBuild Config.Build.defaults) { State.reset with status := 1#8 } :=
  ⟨rfl, rfl, rfl, rfl, rfl, rfl, fun c => by cases c <;> rfl⟩

theorem witness_EveryStepKeepsSoundness : ticking.Sound ∧ ∃ t, step ticking = .next t := ⟨by decide, _, rfl⟩

theorem witness_EveryStepKeepsThePointerInvariant :
    ticking.Sound ∧ (∀ d ∈ ticking.dl, lineTrails d) ∧ ∃ t, step ticking = .next t := by
  refine ⟨by decide, fun d hd => ?_, _, rfl⟩
  have h : d = DelayLine.reset 883 := by
    have : ticking.dl = [DelayLine.reset 883, DelayLine.reset 883] := rfl
    simpa [this] using hd
  have h0 : signedScaled 0#32 = 0 := by decide
  have hf : ffloor 0#32 = 0 := by decide
  subst h
  refine ⟨by decide, ?_, ?_, by decide, ?_, ?_⟩
  · simp [DelayLine.reset, fVal, h0]
  · simp [DelayLine.reset, fVal, h0]
  · have hz : feq 0#32 fZero = true := by decide
    simp [pointerGap, DelayLine.reset, hf, hz]
  · simp [pointerGap, DelayLine.reset, fVal, h0]

theorem witness_EveryStepKeepsNaNsCanonical : ticking.Canonical ∧ ∃ t, step ticking = .next t := by
  refine ⟨fun x hx hn => ?_, _, rfl⟩
  have h : ticking.floats.all (fun y => !isNaN y) = true := by decide +kernel
  have hf := List.all_eq_true.mp h x hx
  simp [hn] at hf

theorem witness_EveryStepKeepsLegalValues : ticking.InRange ∧ ∃ t, step ticking = .next t :=
  ⟨by decide +kernel, _, rfl⟩

/-- An ADSR unit with SUSTAIN 1.0 in a stage. -/
def inStage (st : AdsrState) (t : F32) : Adsr := { Adsr.reset with sustain := fOne, state := st, target := t }

/-- The reset state with these ADSR units, with oscillators at these frequencies and with AMP 1.0. -/
def ranged (as : List Adsr) (fs : List F32) : State :=
  { State.reset with adsr := as, osc := fs.map (fun f => { Osc.reset 256 with freq := f }),
                     voice := { State.reset.voice with amp := fOne } }

/-- At the ends of the ranges: FREQ at FS/2, at -FS/2 and one word above, TARGET in each stage. -/
theorem witness_InRange_at_the_ends :
    (ranged [inStage .attack fOne, inStage .decay fOne, inStage .sustain fOne, inStage .release fZero, inStage .idle fZero]
      [0x46AC4400#32, 0xC6AC4400#32]).InRange ∧
    ¬ (ranged [] [0x46AC4401#32]).InRange ∧ ¬ (ranged [inStage .attack fZero] []).InRange :=
  ⟨by decide +kernel, by decide +kernel, by decide +kernel⟩

theorem witness_EveryStepKeepsTheBuild : ∃ t, step ticking = .next t := ⟨_, rfl⟩

/-- The largest and the smallest legal counts and lengths. -/
theorem witness_InvariantsHoldAtReset :
    Config.Build.defaults.Legal ∧
    ({ Config.Build.defaults with dlLens := [1, 16777216], nOz := 255, oscT := 65536 } : Config.Build).Legal := by
  norm_num [Config.Build.Legal, Config.Build.defaults, Config.countLegal]

theorem witness_EveryCommandRecordsItsWarnings :
    (∃ t, exec .vTick State.reset = .next t ∧ t.rspWarn ≠ 0#8) ∧ ∃ t, exec .sysNop State.reset = .next t ∧ t.rspWarn = 0#8 :=
  ⟨⟨_, rfl, by decide⟩, ⟨_, rfl, by decide⟩⟩

theorem witness_TickCountCountsVoiceTicksOnly : ∃ t, exec .vTick (voiced .plucked) = .next t := ⟨_, rfl⟩

theorem witness_VoiceStateMachine :
    (∃ t, exec (.vSetInstr 4) State.reset = .next t) ∧ ∃ t, exec (.vNoteOff 0#32) (voiced .brass) = .next t :=
  ⟨⟨_, rfl⟩, ⟨_, rfl⟩⟩

theorem witness_UnitCommandsStayInTheirUnit :
    isVoice (.dlTick 1 0#32) = false ∧ Instr.dlTick 1 0#32 ≠ .sysReset ∧
    (∃ t, exec (.dlTick 1 0#32) State.reset = .next t) ∧ ∀ r v, Instr.dlTick 1 0#32 ≠ .sysWrReg r v :=
  ⟨rfl, by decide, ⟨_, rfl⟩, nofun⟩

theorem witness_VoiceCommandsTouchBoundUnitsOnly :
    isVoice .vTick = true ∧ ∃ t, exec .vTick (voiced .flute) = .next t := ⟨rfl, _, rfl⟩

theorem witness_WordSpacesChangeByTheirCommandsOnly :
    (∃ t, exec (.vCc 4 0#32) (voiced .bowed) = .next t) ∧ (∀ u k v, Instr.vCc 4 0#32 ≠ .oscTblWr u k v) ∧
    (∀ u x, Instr.vCc 4 0#32 ≠ .dlTick u x) ∧ (∀ u, Instr.vCc 4 0#32 ≠ .dlClear u) ∧ Instr.vCc 4 0#32 ≠ .vTick ∧
    Instr.vCc 4 0#32 ≠ .vReset ∧ (∀ k, Instr.vCc 4 0#32 ≠ .vSetInstr k) ∧ Instr.vCc 4 0#32 ≠ .sysReset :=
  ⟨⟨_, rfl⟩, nofun, nofun, nofun, nofun, nofun, nofun, nofun⟩

theorem witness_WithoutAnInstrumentVoiceCommandsStop :
    isVoice .vLastOut = true ∧ (∀ k, Instr.vLastOut ≠ .vSetInstr k) ∧ (∀ k, Instr.vLastOut ≠ .vRdReg k) ∧
    (∀ k v, Instr.vLastOut ≠ .vWrReg k v) ∧ State.reset.voice.instr = .none := ⟨rfl, nofun, nofun, nofun, rfl⟩

/-- The first index past each list, and the first index of each buffer's far side. -/
theorem witness_IndicesOutOfRangeAreRefused :
    (∃ d, State.reset.dl[1]? = some d ∧ d.len ≤ (883#32 : Word).toNat) ∧
    (∃ o, State.reset.osc[0]? = some o ∧ o.len ≤ 256) ∧ (3 ∉ [1, 2, 4]) ∧ (7 < 8 ∨ 23 < 7) ∧ (5 < 6 ∧ 6 < 8 ∨ 23 < 6) :=
  ⟨⟨_, rfl, by decide⟩, ⟨_, rfl, by decide⟩, by decide, by decide, by decide⟩

theorem witness_UnitRegisterReads :
    (State.reset.dl[1]? = some (DelayLine.reset 883) ∧
      ([0#32, 0#32, 0#32, 0#32, fOne, 0#32, BitVec.ofNat 32 (DelayLine.reset 883).len] : List Word)[6]? = some 883#32) ∧
    State.reset.op[1]? = some OnePole.reset ∧ State.reset.oz[0]? = some OneZero.reset ∧
    State.reset.pz[0]? = some PoleZero.reset ∧ State.reset.bq[0]? = some Biquad.reset ∧
    State.reset.bow[0]? = some Bow.reset ∧ State.reset.reed[0]? = some Reed.reset ∧ State.reset.jet[0]? = some Jet.reset ∧
    State.reset.lip[0]? = some Lip.reset ∧ State.reset.env[0]? = some Env.reset ∧ State.reset.adsr[0]? = some Adsr.reset ∧
    State.reset.ns[0]? = some Noise.reset ∧ State.reset.osc[0]? = some (Osc.reset 256) := by decide

theorem witness_SystemCommands : countsLegal State.reset ∧ ([0#32, State.reset.fs] : List Word)[1]? = some 0x472C4400#32 := by
  decide

/-- Lag 0.0, the largest legal lag, the next word above it, a negative lag and a NaN, and a line of one word. -/
theorem witness_DelayLineLagSetting :
    State.reset.dl[0]? = some (DelayLine.reset 883) ∧ 1 ≤ (883 : Nat) ∧ 883 ≤ 16777216 ∧
    fMag (asF32 0x80000000#32) = 0 ∧
    (fMag (asF32 0x445C8000#32) ≠ 0 ∧ fle fZero (asF32 0x445C8000#32) ∧ fle (asF32 0x445C8000#32) (fOfNat 882)) ∧
    flt (fOfNat 882) (asF32 0x445C8001#32) ∧ flt (asF32 0x80000001#32) fZero ∧ isNaN (asF32 0xFFFFFFFF#32) ∧
    fFinite (asF32 0x445C8000#32) := by decide +kernel

theorem witness_DelayLineTickClearAndRead :
    withLine.dl[0]? = some impulse ∧ (882#32 : Word).toNat < impulse.len := by decide

theorem witness_WordWritesAreExact :
    withLine.Sound ∧ (∃ t, exec (.dlTick 0 0#32) withLine = .next t) ∧ (∃ t, exec (.dlClear 0) withLine = .next t) ∧
    (∃ t, exec (.oscTblWr 0 255 0#32) withLine = .next t) ∧ withLine.osc[0]? = some (Osc.reset 256) ∧ 255 < (Osc.reset 256).len :=
  ⟨by decide, ⟨_, rfl⟩, ⟨_, rfl⟩, ⟨_, rfl⟩, rfl, by decide⟩

/-- A fractional lag and the ticks 2 and 3 that it names, and a whole one. -/
theorem witness_DelayLineImpulseResponse :
    lineSound (DelayLine.reset 8) ∧ (DelayLine.reset 8).buf = [] ∧ fFinite 0x3F800000#32 ∧ fFinite 0x40100000#32 ∧
    fVal 0x40100000#32 = 9 / 4 ∧ ((2 : Nat) : ℤ) = ⌊fVal 0x40100000#32⌋ ∧ fVal 0x40100000#32 ≠ ((2 : Nat) : ℚ) ∧
    2 + 2 ≤ (DelayLine.reset 8).len ∧ fVal 0x40100000#32 ≤ ((DelayLine.reset 8).len : ℚ) - 1 ∧
    3 < (DelayLine.reset 8).len ∧ fVal 0x40000000#32 = ((2 : Nat) : ℚ) := by
  have h : signedScaled 0x40100000#32 = 9 * 2 ^ 147 := by decide +kernel
  have h2 : signedScaled 0x40000000#32 = 2 ^ 150 := by decide +kernel
  have hv : fVal 0x40100000#32 = 9 / 4 := by simp [fVal, h]; norm_num
  refine ⟨by decide, rfl, by decide, by decide, hv, ?_, ?_, by decide, ?_, by decide, ?_⟩
  · rw [hv]; norm_num
  · rw [hv]; norm_num
  · rw [hv]; norm_num [DelayLine.reset]
  · simp [fVal, h2]; norm_num

theorem witness_filter_commands :
    withOnePole.op[0]? = some onePole ∧ withOneZero.oz[0]? = some oneZero ∧ withPoleZero.pz[0]? = some poleZero ∧
    withBiquad.bq[0]? = some biquad := by decide

theorem witness_table_commands :
    State.reset.bow[0]? = some Bow.reset ∧ State.reset.reed[0]? = some Reed.reset ∧ State.reset.jet[0]? = some Jet.reset ∧
    State.reset.lip[0]? = some Lip.reset := by decide

/-- The first finite word, the last one and an infinity. -/
theorem witness_TableBounds :
    fFinite 0x7F7FFFFF#32 ∧ fFinite Bow.reset.slope ∧ fFinite Bow.reset.offset ∧ fFinite Reed.reset.slope ∧
    fFinite Reed.reset.offset ∧ isNaN 0x7F800000#32 = false ∧ isNaN Bow.reset.offset = false ∧
    isNaN Bow.reset.slope = false ∧ isNaN Reed.reset.offset = false ∧ isNaN Reed.reset.slope = false := by decide

/-- A NaN, the smallest negative word and -0.0, which is not negative. -/
theorem witness_EnvelopeSetters :
    (∃ q, State.reset.env[0]? = some q) ∧ isNaN (asF32 0x7F800001#32) ∧ flt (asF32 0x80000001#32) fZero ∧
    fle fZero (asF32 0x80000000#32) ∧ isNaN (asF32 0x80000000#32) = false := ⟨⟨_, rfl⟩, by decide⟩

theorem witness_EnvelopeTick :
    (ramping.env[0]? = some (ramping.envAt 0) ∧ (ramping.envAt 0).state = .ramp ∧
      flt (ramping.envAt 0).value (ramping.envAt 0).target ∧
      fle (ramping.envAt 0).target (fadd (ramping.envAt 0).value (ramping.envAt 0).rate)) ∧
    (State.reset.env[0]? = some Env.reset ∧ Env.reset.state = .done) ∧
    (flt 0x3F3FFFFF#32 0x3F800000#32 ∧ fle 0x3F800000#32 (fadd 0x3F3FFFFF#32 0x3E800000#32) = false) ∧
    (flt 0x3F800000#32 0#32 = false ∧ fle (fsub 0x3F800000#32 0x3E800000#32) 0#32 = false) ∧
    (flt 0x3E800000#32 0#32 = false ∧ fle (fsub 0x3E800000#32 0x3E800000#32) 0#32) := by decide +kernel

/-- The levels at which the clamp begins. -/
theorem witness_AdsrSetters :
    (∃ q, State.reset.adsr[0]? = some q) ∧ isNaN (asF32 0xFFC00000#32) ∧ flt (asF32 0x80000001#32) fZero ∧
    flt fOne (asF32 0x3F800001#32) ∧ (fle fZero (asF32 0x3F800000#32) ∧ fle (asF32 0x3F800000#32) fOne) ∧
    (fle fZero (asF32 0x80000000#32) ∧ fle (asF32 0x80000000#32) fOne) := ⟨⟨_, rfl⟩, by decide⟩

theorem witness_AdsrTick :
    (withAdsr .attack 0x3F000000#32).adsr[0]? = some (adsrIn .attack 0x3F000000#32) ∧
    (adsrIn .attack 0x3F000000#32).state = .attack ∧
    fle fOne (fadd 0x3F000000#32 0x3F000000#32) ∧ fle fOne (fadd 0x3EFFFFFE#32 0x3F000000#32) = false ∧
    (flt 0x3F000000#32 0x3F400000#32 ∧ fle (fsub 0x3F400000#32 0x3E800000#32) 0x3F000000#32) ∧
    (flt 0x3F000000#32 0x3F400001#32 ∧ fle (fsub 0x3F400001#32 0x3E800000#32) 0x3F000000#32 = false) ∧
    (flt 0x3F000000#32 0x3E800000#32 = false ∧ fle 0x3F000000#32 (fadd 0x3E800000#32 0x3E800000#32)) ∧
    (flt 0x3F000000#32 0x3E7FFFFE#32 = false ∧ fle 0x3F000000#32 (fadd 0x3E7FFFFE#32 0x3E800000#32) = false) ∧
    fle (fsub 0x3E800000#32 0x3E800000#32) fZero ∧ fle (fsub 0x3E800001#32 0x3E800000#32) fZero = false := by
  decide +kernel

theorem witness_NoiseCommands :
    (∃ q, State.reset.ns[0]? = some q) ∧ State.reset.noise = .xorshift32 ∧ (1#32 : Word) ≠ 0#32 ∧
    ∃ q, { State.reset with noise := .draw }.ns[0]? = some q := ⟨⟨_, rfl⟩, rfl, by decide, ⟨_, rfl⟩⟩

theorem witness_NoiseGeneratorIsInvertibleAndBounded : (0x80000000#32 : Word) ≠ 0#32 ∧ xorshift32 1#32 = xorshift32 1#32 := by
  decide

/-- The Nyquist frequency itself, the next words beyond it on both sides, and the last table index. -/
theorem witness_OscillatorCommands :
    State.reset.osc[0]? = some (Osc.reset 256) ∧
    isNaN (asF32 0x7FC00000#32) ∧ flt (fmul State.reset.fs 0x3F000000#32) (asF32 0x46AC4401#32) ∧
    flt (fmul State.reset.fs 0x3F000000#32) (asF32 0xC6AC4401#32) = false ∧
    flt (asF32 0xC6AC4401#32) (fneg (fmul State.reset.fs 0x3F000000#32)) ∧
    (isNaN (asF32 0x46AC4400#32) = false ∧ flt (fmul State.reset.fs 0x3F000000#32) (asF32 0x46AC4400#32) = false ∧
      flt (asF32 0x46AC4400#32) (fneg (fmul State.reset.fs 0x3F000000#32)) = false) ∧
    255 < (Osc.reset 256).len := by decide +kernel

/-- The last half entry of the table. -/
theorem witness_OscillatorTick :
    let q : Osc := { Osc.reset 256 with phase := 0x437F8000#32 }
    { State.reset with osc := [q] }.osc[0]? = some q ∧ fFinite q.phase ∧ 0 ≤ fVal q.phase ∧ fVal q.phase < q.len := by
  have h : signedScaled 0x437F8000#32 = 511 * 2 ^ 148 := by decide +kernel
  have hv : fVal 0x437F8000#32 = 511 / 2 := by simp [fVal, h]; norm_num
  refine ⟨rfl, by decide, ?_, ?_⟩
  · show 0 ≤ fVal 0x437F8000#32
    rw [hv]; norm_num
  · show fVal 0x437F8000#32 < ((256 : Nat) : ℚ)
    rw [hv]; norm_num

theorem witness_voice_commands :
    countsLegal (voiced .clarinet) ∧ (voiced .clarinet).voice.instr ≠ .none ∧ (voiced .clarinet).voice.instr ≠ .plucked ∧
    (voiced .clarinet).env = Env.reset :: [] ∧ countsLegal (voiced .plucked) ∧ (voiced .plucked).voice.instr = .plucked ∧
    (voiced .plucked).op = OnePole.reset :: OnePole.reset :: [] ∧
    (voiced .plucked).ns = Noise.reset :: [] ∧ (voiced .plucked).dl = DelayLine.reset 883 :: [DelayLine.reset 883] := by decide

/-- An earlier note: a word in DL0's buffer and a value in LAST. -/
theorem witness_PluckErasesTheEarlierNote :
    let s := voiced .plucked
    let d := DelayLine.reset 883
    let e := { d with buf := [(3, 0x3F800000#32)], last := 0x3F000000#32 }
    let t := { s with dl := [e, DelayLine.reset 883] }
    s.Sound ∧ t.Sound ∧ s.voice.instr = .plucked ∧ s.dl = [d, DelayLine.reset 883] ∧ e = { d with buf := e.buf, last := e.last } :=
  ⟨by decide, by decide, rfl, rfl, rfl⟩

theorem witness_VoiceTicks :
    (let s := voiced .bowed
     s.voice.instr = .bowed ∧ s.dl = DelayLine.reset 883 :: DelayLine.reset 883 :: [] ∧
     s.op = OnePole.reset :: [OnePole.reset] ∧ s.bq = Biquad.reset :: [] ∧ s.bow = Bow.reset :: [] ∧ s.env = Env.reset :: [] ∧
     s.ns = Noise.reset :: [] ∧ s.osc = Osc.reset 256 :: []) ∧
    (let s := voiced .flute
     s.voice.instr = .flute ∧ s.oz = OneZero.reset :: [] ∧ s.pz = PoleZero.reset :: [] ∧ s.reed = Reed.reset :: [] ∧
     s.jet = Jet.reset :: [] ∧ s.lip = Lip.reset :: []) ∧
    (voiced .clarinet).voice.instr = .clarinet ∧ (voiced .brass).voice.instr = .brass ∧
    (voiced .plucked).voice.instr = .plucked ∧ (voiced .plucked).oz = OneZero.reset :: [] := by decide

/-- A pair of every clause, the unknown ones at the numbers beside the known. -/
theorem witness_ControllerMap :
    countsLegal (voiced .bowed) ∧ (voiced .bowed).voice.instr ≠ .none ∧ (voiced .bowed).voice.instr ≠ .plucked ∧
    (voiced .bowed).voice.instr = .bowed ∧ (voiced .clarinet).voice.instr = .clarinet ∧
    (voiced .flute).voice.instr = .flute ∧ (12 ∉ [1, 2, 4, 11] ∧ 0 ∉ [1, 2, 4, 11] ∧ 3 ∉ [1, 2, 4, 11]) ∧
    (voiced .plucked).voice.instr = .plucked ∧ (voiced .brass).voice.instr = .brass := by decide

/-- The parameter column of each instrument exists: the Bowed one, with the voice's own FREQ, AMP, BASE_DELAY and LAST. -/
theorem witness_InstrumentSelection :
    countsLegal State.reset ∧
    ∀ i ∈ [Instrument.bowed, .clarinet, .flute, .brass, .plucked],
      let v := voiceDefaults { State.reset.voice with instr := i } i
      v.instr = i ∧ v.vstate = State.reset.voice.vstate ∧
      [v.freq, v.amp, v.baseDelay, v.last] =
        [State.reset.voice.freq, State.reset.voice.amp, State.reset.voice.baseDelay, State.reset.voice.last] ∧
      [v.comp, v.outGain, v.attackRate] ∈
        [[0x40800000#32, 0x3F800000#32, 0x3A83126F#32], [0x40400000#32, 0x3F800000#32, 0x3BA3D70A#32],
         [0x40000000#32, 0x3E99999A#32, 0x3BA3D70A#32], [0#32, 0x3F800000#32, 0x3BA3D70A#32], [0x3F000000#32, 0x3F800000#32, 0#32]] := by
  decide +kernel

theorem witness_VoiceRegisters :
    ([0#32, 0#32, 0#32, 0#32, 0#32, (voiced .brass).voice.last] : List Word)[5]? = some 0#32 ∧ 15 < 16 ∧
    (voiced .brass).voice.instr ≠ .none := by decide

/-- The largest finite word over the smallest subnormal. -/
theorem witness_ArithmeticIsCorrectlyRounded :
    fFinite 0x7F7FFFFF#32 ∧ fFinite 0x00000001#32 ∧ fVal 0x00000001#32 ≠ 0 := by
  have h : signedScaled 0x00000001#32 = 1 := by decide
  exact ⟨by decide, by decide, by simp [fVal, h]⟩

/-- An infinity and the largest finite word, a nonzero value and a zero divisor, the smallest subnormal and its negative,
and both zeros. -/
theorem witness_InfinitiesAndZeros :
    (isInf 0xFF800000#32 = true ∧ fFinite 0x7F7FFFFF#32 ∧ isInf 0x7F800000#32 = true) ∧
    (fVal 0x00000001#32 ≠ 0 ∧ fVal 0x80000000#32 = 0) ∧ fVal 0x00000001#32 + fVal 0x80000001#32 = 0 ∧
    fVal 0x80000000#32 - fVal 0x00000000#32 = 0 := by
  have h1 : signedScaled 0x00000001#32 = 1 := by decide
  have h2 : signedScaled 0x80000001#32 = -1 := by decide
  have h3 : signedScaled 0x80000000#32 = 0 := by decide
  have h4 : signedScaled 0x00000000#32 = 0 := by decide
  exact ⟨by decide, by simp [fVal, h1, h3], by simp [fVal, h1, h2, neg_div], by simp [fVal, h3, h4]⟩

/-- A NaN, infinities of both signs, and zeros of both signs. -/
theorem witness_NaNsAndComparisons :
    isNaN 0x7FC00000#32 = true ∧ isInf 0x7F800000#32 = true ∧ isInf 0xFF800000#32 = true ∧
    fNeg? 0x7F800000#32 ≠ fNeg? 0xFF800000#32 ∧ (fFinite 0x80000000#32 ∧ fFinite 0x00000000#32) ∧
    (fVal 0x80000000#32 = 0 ∧ fVal 0x00000000#32 = 0) ∧ isNaN 0x7F800000#32 = false ∧ isNaN 0x7F7FFFFF#32 = false := by
  have h3 : signedScaled 0x80000000#32 = 0 := by decide
  have h4 : signedScaled 0x00000000#32 = 0 := by decide
  exact ⟨by decide, by decide, by decide, by decide, by decide, by simp [fVal, h3, h4], by decide, by decide⟩

/-- The results that IEEE 754 gives the four operations on infinities and zeros, for fixed words. -/
theorem test_infinities_and_zeros :
    fsub 0xFF800000#32 0xFF800000#32 = 0x7FC00000#32 ∧ fmul 0xFF800000#32 0x80000000#32 = 0x7FC00000#32 ∧
    fsub 0x3F800000#32 0x7F800000#32 = 0xFF800000#32 ∧ fmul 0xFF800000#32 0x80000001#32 = 0x7F800000#32 ∧
    fdiv 0xBF800000#32 0x00000000#32 = 0xFF800000#32 ∧ fdiv 0x3F800000#32 0xFF800000#32 = 0x80000000#32 ∧
    fadd 0xBF800000#32 0x3F800000#32 = 0x00000000#32 ∧ fsub 0x80000000#32 0x00000000#32 = 0x80000000#32 := by decide +kernel

end Sys2Proof.Tests
end

/-! SUPPORT. Words that hold no NaN but the canonical one: which operations answer them, and which words of a state
are such (spec/00_scope.md R19). -/

namespace Sys2Proof.Machine

/-! ## Canonical words -/

theorem canonical_iff {x : F32} : canonical x ↔ fCanon x = x := by
  unfold canonical fCanon
  split
  · exact ⟨fun h => (h ‹_›).symm, fun h _ => h.symm⟩
  · exact ⟨fun _ => rfl, fun _ h => absurd h ‹_›⟩

theorem canonical_of_not_nan {x : F32} (h : isNaN x = false) : canonical x :=
  canonical_iff.mpr (fCanon_of_not_nan h)

@[simp] theorem canonical_fCanon (x : F32) : canonical (fCanon x) := canonical_iff.mpr (fCanon_fCanon x)
@[simp] theorem canonical_asF32 (w : Word) : canonical (asF32 w) := canonical_fCanon w
@[simp] theorem canonical_fadd (x y : F32) : canonical (fadd x y) := canonical_iff.mpr (fCanon_fadd x y)
@[simp] theorem canonical_fsub (x y : F32) : canonical (fsub x y) := canonical_iff.mpr (fCanon_fsub x y)
@[simp] theorem canonical_fmul (x y : F32) : canonical (fmul x y) := canonical_iff.mpr (fCanon_fmul x y)
@[simp] theorem canonical_fdiv (x y : F32) : canonical (fdiv x y) := canonical_iff.mpr (fCanon_fdiv x y)
@[simp] theorem canonical_fneg (x : F32) : canonical (fneg x) := canonical_iff.mpr (fCanon_fneg x)
@[simp] theorem canonical_fabs (x : F32) : canonical (fabs x) := canonical_iff.mpr (fCanon_fabs x)

@[simp] theorem canonical_fDec (n d : Nat) : canonical (fDec n d) := canonical_of_not_nan (isNaN_roundQuot _ _ _)
@[simp] theorem canonical_fDecNeg (n d : Nat) : canonical (fDecNeg n d) := canonical_of_not_nan (isNaN_roundQuot _ _ _)
@[simp] theorem canonical_fOfNat (n : Nat) : canonical (fOfNat n) := canonical_of_not_nan (isNaN_roundQuot _ _ _)
@[simp] theorem canonical_dlMax (len : Nat) : canonical (dlMax len) := canonical_fOfNat _
@[simp] theorem canonical_fZero : canonical fZero := canonical_of_not_nan (by decide)
@[simp] theorem canonical_fOne : canonical fOne := canonical_of_not_nan (by decide)
@[simp] theorem canonical_fMinusOne : canonical fMinusOne := canonical_of_not_nan (by decide)

/-! A value chosen among canonical ones, or from an operand that is no NaN where it is taken, is canonical. -/

theorem canonical_ite {c : Prop} [Decidable c] {x y : F32} (hx : c → canonical x) (hy : ¬ c → canonical y) :
    canonical (if c then x else y) := by
  split
  · exact hx ‹_›
  · exact hy ‹_›

theorem canonical_fclamp {x lo hi : F32} (hx : canonical x) (hlo : canonical lo) (hhi : canonical hi) :
    canonical (fclamp x lo hi) :=
  canonical_ite (fun _ => hhi) fun _ => canonical_ite (fun _ => hlo) fun _ => hx

@[simp] theorem canonical_sanRate (r : F32) : canonical (sanRate r) :=
  canonical_ite (fun _ => canonical_fZero) fun h =>
    canonical_ite (fun _ => canonical_fabs r) fun _ => canonical_of_not_nan (by simpa using h)

@[simp] theorem canonical_sustainLevel {v : F32} (h : isNaN v = false) : canonical (sustainLevel v) :=
  canonical_ite (fun _ => canonical_fZero) fun _ =>
    canonical_ite (fun _ => canonical_fOne) fun _ => canonical_of_not_nan h

@[simp] theorem canonical_unitClamp (v : F32) : canonical (unitClamp v) :=
  canonical_ite (fun _ => canonical_fZero) fun h =>
    canonical_ite (fun _ => canonical_fOne) fun _ => canonical_of_not_nan (by simp_all)

@[simp] theorem canonical_dlLag (len : Nat) (lag : F32) : canonical (dlLag len lag) :=
  canonical_ite (fun _ => canonical_fZero) fun _ => canonical_ite (fun _ => canonical_fZero) fun h =>
    canonical_ite (fun _ => canonical_dlMax len) fun _ => canonical_of_not_nan (by simp_all)

@[simp] theorem canonical_dlAlpha (lag : F32) : canonical (dlAlpha lag) :=
  canonical_ite (fun _ => canonical_fZero) fun _ => canonical_fsub _ _

@[simp] theorem canonical_oscFreq (fs f : F32) : canonical (oscFreq fs f) :=
  canonical_ite (fun _ => canonical_fZero) fun h => canonical_ite (fun _ => canonical_fmul _ _) fun _ =>
    canonical_ite (fun _ => canonical_fneg _) fun _ => canonical_of_not_nan (by simpa using h)

theorem not_nan_of_inUnitRange {y : F32} (h : inUnitRange y = true) : isNaN y = false := by
  simp only [inUnitRange, fle, Bool.and_eq_true, Bool.not_eq_true'] at h
  exact h.2.1.1

@[simp] theorem canonical_drawSample (n : Nat) : canonical (drawSample n) :=
  canonical_ite (fun h => canonical_of_not_nan (not_nan_of_inUnitRange h)) fun _ => canonical_fZero

/-! ## Lists of words -/

/-- Every word of the list is canonical. -/
def AllCanonical (l : List F32) : Prop := ∀ x ∈ l, canonical x

@[simp] theorem allCanonical_nil : AllCanonical [] := fun _ h => absurd h List.not_mem_nil

@[simp] theorem allCanonical_cons {x : F32} {l : List F32} : AllCanonical (x :: l) ↔ canonical x ∧ AllCanonical l :=
  List.forall_mem_cons

@[simp] theorem allCanonical_append {l m : List F32} : AllCanonical (l ++ m) ↔ AllCanonical l ∧ AllCanonical m :=
  List.forall_mem_append

@[simp] theorem allCanonical_flatMap {α : Type} {l : List α} {f : α → List F32} :
    AllCanonical (l.flatMap f) ↔ ∀ a ∈ l, AllCanonical (f a) := by
  simp only [AllCanonical, List.mem_flatMap]
  exact ⟨fun h a ha x hx => h x ⟨a, ha, hx⟩, fun h x ⟨a, ha, hx⟩ => h a ha x hx⟩

/-- A list of words without a NaN; for the reset values, whose words are constants. -/
theorem allCanonical_of_no_nan {l : List F32} (h : l.all (fun x => !isNaN x) = true) : AllCanonical l := fun x hx =>
  canonical_of_not_nan (by simpa using List.all_eq_true.mp h x hx)

/-- A `MemWrite` stores a canonical word (spec/20_memory.md R101). -/
theorem allCanonical_memWrite {m : Memory} (hm : AllCanonical (m.map (·.2))) (k : Nat) (v : F32) :
    AllCanonical ((memWrite m k v).map (·.2)) := by
  intro x hx
  obtain ⟨c, hc, rfl⟩ := List.mem_map.mp hx
  rcases mem_memPut hc with hc | ⟨rfl, -⟩
  · exact hm c.2 (List.mem_map_of_mem hc)
  · exact canonical_fCanon v

/-! ## Units in a list -/

section UnitLists
variable {α β : Type} {l : List α} {u : Nat} {d x : α}

theorem getD_of_forall_mem {P : α → Prop} (hl : ∀ a ∈ l, P a) (hd : P d) : P (l.getD u d) := by
  by_cases h : u < l.length
  · rw [List.getD_eq_getElem _ _ h]; exact hl _ (List.getElem_mem h)
  · rwa [List.getD_eq_default _ _ (Nat.not_lt.mp h)]

/-- What every unit has, every unit still has after unit `u` got a new value that has it if the old one did. -/
theorem forall_mem_set {P : α → Prop} (hl : ∀ a ∈ l, P a) (hx : P (l.getD u d) → P x) : ∀ a ∈ l.set u x, P a := by
  by_cases h : u < l.length
  · intro a ha
    rcases List.mem_or_eq_of_mem_set ha with ha | rfl
    · exact hl a ha
    · refine hx ?_
      rw [List.getD_eq_getElem _ _ h]
      exact hl _ (List.getElem_mem h)
  · rwa [List.set_eq_of_length_le (Nat.not_lt.mp h)]

/-- A new value of unit `u` that agrees with the old one in `f` leaves `f` of every unit. -/
theorem map_set_of_eq {f : α → β} (hx : f x = f (l.getD u d)) : (l.set u x).map f = l.map f := by
  refine List.ext_getElem? fun v => ?_
  by_cases h : u = v
  · subst h
    by_cases hl : u < l.length
    · simp [hl, hx]
    · simp [hl]
  · simp [h]

end UnitLists

/-! ## The words of a state -/

/-- `State.Canonical` class by class. -/
structure State.CanonicalUnits (s : State) : Prop where
  dl : ∀ q ∈ s.dl, AllCanonical q.floats
  op : ∀ q ∈ s.op, AllCanonical q.floats
  oz : ∀ q ∈ s.oz, AllCanonical q.floats
  pz : ∀ q ∈ s.pz, AllCanonical q.floats
  bq : ∀ q ∈ s.bq, AllCanonical q.floats
  bow : ∀ q ∈ s.bow, AllCanonical q.floats
  reed : ∀ q ∈ s.reed, AllCanonical q.floats
  jet : ∀ q ∈ s.jet, AllCanonical q.floats
  lip : ∀ q ∈ s.lip, AllCanonical q.floats
  env : ∀ q ∈ s.env, AllCanonical q.floats
  adsr : ∀ q ∈ s.adsr, AllCanonical q.floats
  ns : ∀ q ∈ s.ns, AllCanonical q.floats
  osc : ∀ q ∈ s.osc, AllCanonical q.floats
  voice : AllCanonical s.voice.floats

theorem State.canonical_iff_units (s : State) : s.Canonical ↔ s.CanonicalUnits := by
  show AllCanonical s.floats ↔ _
  simp only [State.floats, allCanonical_append, allCanonical_flatMap]
  constructor
  · rintro ⟨⟨⟨⟨⟨⟨⟨⟨⟨⟨⟨⟨⟨dl, op⟩, oz⟩, pz⟩, bq⟩, bow⟩, reed⟩, jet⟩, lip⟩, env⟩, adsr⟩, ns⟩, osc⟩, voice⟩
    exact ⟨dl, op, oz, pz, bq, bow, reed, jet, lip, env, adsr, ns, osc, voice⟩
  · rintro ⟨dl, op, oz, pz, bq, bow, reed, jet, lip, env, adsr, ns, osc, voice⟩
    exact ⟨⟨⟨⟨⟨⟨⟨⟨⟨⟨⟨⟨⟨dl, op⟩, oz⟩, pz⟩, bq⟩, bow⟩, reed⟩, jet⟩, lip⟩, env⟩, adsr⟩, ns⟩, osc⟩, voice⟩

/-- `x` is canonical if every word of `s` is: an operand as a command reads it, a result, or a word that `s` holds. -/
def State.Gives (s : State) (x : F32) : Prop := s.Canonical → canonical x

theorem State.gives_of_canonical {s : State} {x : F32} (h : canonical x) : s.Gives x := fun _ => h

/-- The last output of a delay line, as the loop bodies read it. -/
theorem State.gives_dlAt_last (s : State) (u : Nat) : s.Gives (s.dlAt u).last := fun h => by
  have hu : AllCanonical (s.dlAt u).floats :=
    getD_of_forall_mem ((s.canonical_iff_units).mp h).dl (allCanonical_of_no_nan (by decide))
  exact hu _ (by simp [DelayLine.floats])

/-- A voice register. -/
theorem State.gives_voice {s : State} {x : F32} (hx : x ∈ s.voice.floats) : s.Gives x :=
  fun h => ((s.canonical_iff_units).mp h).voice x hx

end Sys2Proof.Machine

/-! SUPPORT. What a command can do to the state, said once: a command is a finite sequence of updates, each of one unit by
one of its class's own operations, of the voice, or of a system register (spec/00_scope.md R22). An invariant that every
update keeps is kept by every command. -/

namespace Sys2Proof.Machine

/-! ## The moves of a unit

One constructor per operation that a command applies to a unit of the class. `ok` is what is known of an operand that
the operation stores. -/

inductive LineMove (d : DelayLine) : DelayLine → Prop
  | setDelay (lag : F32) : LineMove d (dlSetDelay d lag)
  | tick (x : F32) : LineMove d (dlTick d x)
  | clear : LineMove d (dlClear d)

inductive OnePoleMove (ok : F32 → Prop) (q : OnePole) : OnePole → Prop
  | setPole (p : F32) (hp : ok p) : OnePoleMove ok q (opSetPole q p)
  | setGain (g : F32) (hg : ok g) : OnePoleMove ok q (opSetGain q g)
  | tick (x : F32) : OnePoleMove ok q (opTick q x)
  | clear : OnePoleMove ok q (opClear q)

inductive OneZeroMove (ok : F32 → Prop) (q : OneZero) : OneZero → Prop
  | setZero (z : F32) (hz : ok z) : OneZeroMove ok q (ozSetZero q z)
  | setGain (g : F32) (hg : ok g) : OneZeroMove ok q (ozSetGain q g)
  | tick (x : F32) (hx : ok x) : OneZeroMove ok q (ozTick q x)
  | clear : OneZeroMove ok q (ozClear q)

inductive PoleZeroMove (ok : F32 → Prop) (q : PoleZero) : PoleZero → Prop
  | setA1 (v : F32) (hv : ok v) : PoleZeroMove ok q (pzSetA1 q v)
  | setB0 (v : F32) (hv : ok v) : PoleZeroMove ok q (pzSetB0 q v)
  | setB1 (v : F32) (hv : ok v) : PoleZeroMove ok q (pzSetB1 q v)
  | setBlockZero (p : F32) (hp : ok p) : PoleZeroMove ok q (pzSetBlockZero q p)
  | tick (x : F32) (hx : ok x) : PoleZeroMove ok q (pzTick q x)
  | clear : PoleZeroMove ok q (pzClear q)

/-- The coefficient changes of a biquad, which a lip unit applies to its embedded filter too. -/
inductive CoefMove (ok : F32 → Prop) (m : Config.CosineModel) (fs : F32) (q : Biquad) : Biquad → Prop
  | setFreqReson (f r : F32) : CoefMove ok m fs q (bqSetFreqReson m fs q f r)
  | setEqualGainZeroes : CoefMove ok m fs q (bqSetEqualGainZeroes q)
  | setCoef (k : Nat) (v : F32) (hv : ok v) (q' : Biquad) (h : bqSetCoef q k v = some q') : CoefMove ok m fs q q'

inductive BiquadMove (ok : F32 → Prop) (m : Config.CosineModel) (fs : F32) (q : Biquad) : Biquad → Prop
  | coef (q' : Biquad) (h : CoefMove ok m fs q q') : BiquadMove ok m fs q q'
  | tick (x : F32) : BiquadMove ok m fs q (bqTick q x)
  | clear : BiquadMove ok m fs q (bqClear q)

inductive BowMove (ok : F32 → Prop) (q : Bow) : Bow → Prop
  | setOffset (v : F32) (hv : ok v) : BowMove ok q { q with offset := v }
  | setSlope (v : F32) (hv : ok v) : BowMove ok q { q with slope := v }
  | tick (x : F32) : BowMove ok q (bowTick q x)

inductive ReedMove (ok : F32 → Prop) (q : Reed) : Reed → Prop
  | setOffset (v : F32) (hv : ok v) : ReedMove ok q { q with offset := v }
  | setSlope (v : F32) (hv : ok v) : ReedMove ok q { q with slope := v }
  | tick (x : F32) : ReedMove ok q (reedTick q x)

inductive JetMove (q : Jet) : Jet → Prop
  | tick (x : F32) : JetMove q (jetTick q x)

inductive LipMove (ok : F32 → Prop) (m : Config.CosineModel) (fs : F32) (q : Lip) : Lip → Prop
  | coef (f : Biquad) (h : CoefMove ok m fs q.filter f) : LipMove ok m fs q { q with filter := f }
  | tick (x y : F32) : LipMove ok m fs q (lipTick q x y)
  | clear : LipMove ok m fs q (lipClear q)

inductive EnvMove (q : Env) : Env → Prop
  | setRate (r : F32) : EnvMove q { q with rate := sanRate r }
  | aim (t : F32) (ht : isNaN t = false) : EnvMove q (envAim q t)
  | setValue (v : F32) (hv : isNaN v = false) : EnvMove q { q with value := v, target := v, state := .done }
  | tick : EnvMove q (envTick q)

inductive AdsrMove (q : Adsr) : Adsr → Prop
  | setAttack (r : F32) : AdsrMove q { q with attack := sanRate r }
  | setDecay (r : F32) : AdsrMove q { q with decay := sanRate r }
  | setSustain (v : F32) (hv : isNaN v = false) : AdsrMove q (adsrSetSustain q (sustainLevel v))
  | setRelease (r : F32) : AdsrMove q { q with release := sanRate r }
  | keyOn : AdsrMove q { q with target := fOne, state := .attack }
  | keyOff : AdsrMove q { q with target := fZero, state := .release }
  | tick : AdsrMove q (adsrTick q)

inductive NoiseMove (q : Noise) : Noise → Prop
  | seed (w : Word) (hw : w ≠ 0#32) : NoiseMove q { q with state := w }
  | tick : NoiseMove q (nsTickXorshift q)
  | draw (n : Nat) : NoiseMove q { q with last := drawSample n }

inductive OscMove (fs : F32) (q : Osc) : Osc → Prop
  | setFreq (f : F32) : OscMove fs q (oscSetFreq fs q f)
  | restart : OscMove fs q (oscRestart q)
  | tick : OscMove fs q (oscTick q)
  | write (k : Nat) (v : F32) (hk : k < q.len) : OscMove fs q { q with tbl := memWrite q.tbl k v }

inductive VoiceMove (ok : F32 → Prop) (fs : F32) (v : Voice) : Voice → Prop
  | setReg (k : Nat) (x : F32) (hx : ok x) (w : Voice) (h : voiceSet v k x = some w) : VoiceMove ok fs v w
  | tuned (len : Nat) (f : F32) (hf : ok f) : VoiceMove ok fs v (voiceTuned fs (dlMax len) v f)
  | select (i : Instrument) : VoiceMove ok fs v (voiceDefaults { v with instr := i } i)
  | silence : VoiceMove ok fs v (voiceSilenced v)
  | setAmp (x : F32) : VoiceMove ok fs v { v with amp := unitClamp x }
  | setState (x : VoiceState) : VoiceMove ok fs v { v with vstate := x }
  | setLast (x : F32) (hx : ok x) : VoiceMove ok fs v { v with last := x }

/-! ## The updates of a state -/

/-- One update of the state by the rule of a command. -/
inductive Update (s : State) : State → Prop
  | warn (w : Warning) : Update s (raise w s)
  | reply (w : Word) : Update s (answer w s)
  | reset : Update s (restart s)
  | clearStatus (v : BitVec 8) : Update s { s with status := s.status &&& ~~~v }
  | setIrqEn (v : BitVec 8) : Update s { s with irqEn := v }
  | setTickCount (v : Word) : Update s { s with tickCount := v }
  | draw : Update s { s with drawCount := s.drawCount + 1 }
  | dl (u : Nat) (q : DelayLine) (h : LineMove (s.dlAt u) q) : Update s (s.setDl u q)
  | op (u : Nat) (q : OnePole) (h : OnePoleMove s.Gives (s.opAt u) q) : Update s (s.setOp u q)
  | oz (u : Nat) (q : OneZero) (h : OneZeroMove s.Gives (s.ozAt u) q) : Update s (s.setOz u q)
  | pz (u : Nat) (q : PoleZero) (h : PoleZeroMove s.Gives (s.pzAt u) q) : Update s (s.setPz u q)
  | bq (u : Nat) (q : Biquad) (h : BiquadMove s.Gives s.cosine s.fs (s.bqAt u) q) : Update s (s.setBq u q)
  | bow (u : Nat) (q : Bow) (h : BowMove s.Gives (s.bowAt u) q) : Update s (s.setBow u q)
  | reed (u : Nat) (q : Reed) (h : ReedMove s.Gives (s.reedAt u) q) : Update s (s.setReed u q)
  | jet (u : Nat) (q : Jet) (h : JetMove (s.jetAt u) q) : Update s (s.setJet u q)
  | lip (u : Nat) (q : Lip) (h : LipMove s.Gives s.cosine s.fs (s.lipAt u) q) : Update s (s.setLip u q)
  | env (u : Nat) (q : Env) (h : EnvMove (s.envAt u) q) : Update s (s.setEnv u q)
  | adsr (u : Nat) (q : Adsr) (h : AdsrMove (s.adsrAt u) q) : Update s (s.setAdsr u q)
  | ns (u : Nat) (q : Noise) (h : NoiseMove (s.nsAt u) q) : Update s (s.setNs u q)
  | osc (u : Nat) (q : Osc) (h : OscMove s.fs (s.oscAt u) q) : Update s (s.setOsc u q)
  | voice (v : Voice) (h : VoiceMove s.Gives s.fs s.voice v) : Update s (s.setVoice v)

/-- `t` is what some updates, one after the other, make of `s`. -/
abbrev Updates : State → State → Prop := Relation.ReflTransGen Update

theorem Update.once {s t : State} (h : Update s t) : Updates s t := .single h

/-- What every update keeps, every sequence of updates keeps. -/
theorem Updates.keeps {P : State → Prop} (hP : ∀ s t, Update s t → P s → P t) {s t : State} (h : Updates s t)
    (hs : P s) : P t := by
  induction h with
  | refl => exact hs
  | tail _ hbc ih => exact hP _ _ hbc ih

/-- Updates composed from the last back to the first, as a rule's final state is read. -/
theorem Updates.after {s t r : State} (h : Updates t r) (h' : Updates s t) : Updates s r := h'.trans h

/-! ## The shared operations -/

section
variable (s : State)

theorem raise_updates (w : Warning) : Updates s (raise w s) := (Update.warn w).once

theorem raiseIf_updates (c : Bool) (w : Warning) : Updates s (raiseIf c w s) := by
  cases c
  · exact .refl
  · exact raise_updates s w

theorem answer_updates (w : Word) : Updates s (answer w s) := (Update.reply w).once

theorem answerWith_updates {r : State × Word} (h : Updates s r.1) : Updates s (answerWith r) :=
  h.trans (answer_updates _ _)

theorem refuse_updates : Updates s (refuse s) := (raise_updates s _).trans (answer_updates _ _)

theorem answerReg_updates (r : Option Word) : Updates s (answerReg r s) := by
  cases r with
  | none => exact refuse_updates s
  | some w => exact answer_updates s w

theorem onUnit_updates (n u : Nat) {body : State → State} (h : Updates s (body s)) : Updates s (onUnit n u body s) := by
  unfold onUnit
  split
  · exact h
  · exact refuse_updates s

theorem onVoice_updates {body : State → State} (h : Updates s (body s)) : Updates s (onVoice body s) := by
  unfold onVoice
  split
  · exact raise_updates s _
  · exact h

theorem sysWrite_updates (reg : Nat) (v : Word) : Updates s (sysWrite reg v s) := by
  unfold sysWrite
  split
  · exact (Update.clearStatus _).once
  · exact (Update.setIrqEn _).once
  · exact (Update.setTickCount _).once
  · exact refuse_updates s

/-! ## The sub-operations -/

theorem subDlSetDelay_updates (u : Nat) (lag : F32) : Updates s (subDlSetDelay u lag s) :=
  (Update.dl u _ (.setDelay lag)).once.trans (raiseIf_updates _ _ _)

theorem subDlTick_updates (u : Nat) (x : F32) : Updates s (subDlTick u x s).1 := (Update.dl u _ (.tick x)).once

theorem subDlClear_updates (u : Nat) : Updates s (subDlClear u s) := (Update.dl u _ .clear).once

theorem subOpSetPole_updates (u : Nat) {p : F32} (hp : s.Gives p) : Updates s (subOpSetPole u p s) :=
  (Update.op u _ (.setPole p hp)).once

theorem subOpSetGain_updates (u : Nat) {g : F32} (hg : s.Gives g) : Updates s (subOpSetGain u g s) :=
  (Update.op u _ (.setGain g hg)).once

theorem subOpTick_updates (u : Nat) (x : F32) : Updates s (subOpTick u x s).1 := (Update.op u _ (.tick x)).once

theorem subOpClear_updates (u : Nat) : Updates s (subOpClear u s) := (Update.op u _ .clear).once

theorem subOzSetZero_updates (u : Nat) {z : F32} (hz : s.Gives z) : Updates s (subOzSetZero u z s) :=
  (Update.oz u _ (.setZero z hz)).once

theorem subOzSetGain_updates (u : Nat) {g : F32} (hg : s.Gives g) : Updates s (subOzSetGain u g s) :=
  (Update.oz u _ (.setGain g hg)).once

theorem subOzTick_updates (u : Nat) {x : F32} (hx : s.Gives x) : Updates s (subOzTick u x s).1 :=
  (Update.oz u _ (.tick x hx)).once

theorem subOzClear_updates (u : Nat) : Updates s (subOzClear u s) := (Update.oz u _ .clear).once

theorem subPzSetBlockZero_updates (u : Nat) {p : F32} (hp : s.Gives p) : Updates s (subPzSetBlockZero u p s) :=
  (Update.pz u _ (.setBlockZero p hp)).once

theorem subPzTick_updates (u : Nat) {x : F32} (hx : s.Gives x) : Updates s (subPzTick u x s).1 :=
  (Update.pz u _ (.tick x hx)).once

theorem subPzClear_updates (u : Nat) : Updates s (subPzClear u s) := (Update.pz u _ .clear).once

theorem subBqSetFreqReson_updates (u : Nat) (f r : F32) : Updates s (subBqSetFreqReson u f r s) :=
  (Update.bq u _ (.coef _ (.setFreqReson f r))).once

theorem subBqSetCoef_updates (u k : Nat) {v : F32} (hv : s.Gives v) : Updates s (subBqSetCoef u k v s) := by
  unfold subBqSetCoef
  split
  · exact (Update.bq u _ (.coef _ (.setCoef k v hv _ ‹_›))).once
  · exact refuse_updates s

theorem subBqTick_updates (u : Nat) (x : F32) : Updates s (subBqTick u x s).1 := (Update.bq u _ (.tick x)).once

theorem subBqClear_updates (u : Nat) : Updates s (subBqClear u s) := (Update.bq u _ .clear).once

theorem subBowSetOffset_updates (u : Nat) {v : F32} (hv : s.Gives v) : Updates s (subBowSetOffset u v s) :=
  (Update.bow u _ (.setOffset v hv)).once

theorem subBowSetSlope_updates (u : Nat) {v : F32} (hv : s.Gives v) : Updates s (subBowSetSlope u v s) :=
  (Update.bow u _ (.setSlope v hv)).once

theorem subBowTick_updates (u : Nat) (x : F32) : Updates s (subBowTick u x s).1 := (Update.bow u _ (.tick x)).once

theorem subReedSetOffset_updates (u : Nat) {v : F32} (hv : s.Gives v) : Updates s (subReedSetOffset u v s) :=
  (Update.reed u _ (.setOffset v hv)).once

theorem subReedSetSlope_updates (u : Nat) {v : F32} (hv : s.Gives v) : Updates s (subReedSetSlope u v s) :=
  (Update.reed u _ (.setSlope v hv)).once

theorem subReedTick_updates (u : Nat) (x : F32) : Updates s (subReedTick u x s).1 := (Update.reed u _ (.tick x)).once

theorem subJetTick_updates (u : Nat) (x : F32) : Updates s (subJetTick u x s).1 := (Update.jet u _ (.tick x)).once

theorem subLipSetFreqReson_updates (u : Nat) (f r : F32) : Updates s (subLipSetFreqReson u f r s) :=
  (Update.lip u _ (.coef _ (.setFreqReson f r))).once

theorem subLipSetCoef_updates (u k : Nat) {v : F32} (hv : s.Gives v) : Updates s (subLipSetCoef u k v s) := by
  unfold subLipSetCoef
  split
  · exact (Update.lip u _ (.coef _ (.setCoef k v hv _ ‹_›))).once
  · exact refuse_updates s

theorem subLipTick_updates (u : Nat) (x y : F32) : Updates s (subLipTick u x y s).1 := (Update.lip u _ (.tick x y)).once

theorem subLipClear_updates (u : Nat) : Updates s (subLipClear u s) := (Update.lip u _ .clear).once

theorem subEnvSetRate_updates (u : Nat) (r : F32) : Updates s (subEnvSetRate u r s) :=
  (Update.env u _ (.setRate r)).once.trans (raiseIf_updates _ _ _)

theorem subEnvSetTarget_updates (u : Nat) (t : F32) : Updates s (subEnvSetTarget u t s) := by
  unfold subEnvSetTarget
  split
  · exact raise_updates s _
  · exact (Update.env u _ (.aim t (by simpa using ‹¬ isNaN t = true›))).once

theorem subEnvSetValue_updates (u : Nat) (v : F32) : Updates s (subEnvSetValue u v s) := by
  unfold subEnvSetValue
  split
  · exact raise_updates s _
  · exact (Update.env u _ (.setValue v (by simpa using ‹¬ isNaN v = true›))).once

theorem subEnvTick_updates (u : Nat) : Updates s (subEnvTick u s).1 := (Update.env u _ .tick).once

theorem subNsTick_updates (u : Nat) : Updates s (subNsTick u s).1 := by
  unfold subNsTick
  split
  · exact (Update.ns u _ .tick).once
  · exact (Update.ns u _ (.draw s.drawCount)).once.trans Update.draw.once

theorem subOscSetFreq_updates (u : Nat) (f : F32) : Updates s (subOscSetFreq u f s) :=
  (Update.osc u _ (.setFreq f)).once.trans (raiseIf_updates _ _ _)

theorem subOscReset_updates (u : Nat) : Updates s (subOscReset u s) := (Update.osc u _ .restart).once

theorem subOscTick_updates (u : Nat) : Updates s (subOscTick u s).1 := (Update.osc u _ .tick).once

theorem setVoice_updates {v : Voice} (h : VoiceMove s.Gives s.fs s.voice v) : Updates s (s.setVoice v) :=
  (Update.voice v h).once

end


/-! ## The rules of the voice -/

section
variable (s : State)

theorem distribute_updates (d : F32) : Updates s (distribute d s) := by
  have both : Updates s (subDlSetDelay 1 (fmul d s.voice.ratio)
      (subDlSetDelay 0 (fmul d (fsub fOne s.voice.ratio)) s)) :=
    (subDlSetDelay_updates _ _ _).after (subDlSetDelay_updates _ _ _)
  have one : Updates s (subDlSetDelay 0 (fmul d s.voice.ratio) s) := subDlSetDelay_updates _ _ _
  unfold distribute
  cases s.voice.instr with
  | bowed => exact both
  | flute => exact both
  | clarinet => exact one
  | brass => exact one
  | plucked => exact one
  | none => exact one

/-- A warning changes no word. -/
theorem State.Gives.raiseIf {s : State} {x : F32} (h : s.Gives x) (c : Bool) (w : Warning) :
    (raiseIf c w s).Gives x := by
  cases c <;> exact h

theorem setFreq_updates {f : F32} (hf : s.Gives f) : Updates s (setFreq f s) := by
  unfold setFreq
  extract_lets max g d s1 s2 s3 s4
  have tune : Updates s2 s3 := setVoice_updates _ (.tuned _ f ((hf.raiseIf _ _).raiseIf _ _))
  have h : Updates s s4 :=
    (distribute_updates _ _).after <| tune.after <| (raiseIf_updates _ _ _).after (raiseIf_updates _ _ _)
  split
  · exact (subLipSetFreqReson_updates _ _ _ _).after h
  · exact h

theorem excite_updates : Updates s (excite s).1 :=
  (subOscTick_updates _ 0).after <| (subNsTick_updates _ 0).after (subEnvTick_updates _ 0)

theorem loopBowed_updates : Updates s (loopBowed s).1 := by
  unfold loopBowed
  extract_lets x loss bridge nut dv bow nv s0 s1 s2 body
  have h1 : Updates s s1 := (subDlTick_updates _ 1 _).after <| (subDlTick_updates _ 0 _).after <|
    (subBowTick_updates _ 0 _).after <| (subOpTick_updates _ 0 _).after (excite_updates s)
  have h2 : Updates s1 s2 := by
    unfold s2
    split
    · exact subDlSetDelay_updates _ _ _
    · exact .refl
  exact (subBqTick_updates _ 0 _).after (h2.after h1)

theorem loopClarinet_updates : Updates s (loopClarinet s).1 :=
  (subDlTick_updates _ 0 _).after <| (subReedTick_updates _ 0 _).after <|
    (subOzTick_updates _ 0 (State.gives_dlAt_last _ 0)).after (excite_updates s)

theorem loopFlute_updates : Updates s (loopFlute s).1 :=
  (subDlTick_updates _ 0 _).after <| (subJetTick_updates _ 0 _).after <| (subDlTick_updates _ 1 _).after <|
    (subPzTick_updates _ 0 (State.gives_of_canonical (canonical_fadd _ _))).after <|
    (subOpTick_updates _ 0 _).after (excite_updates s)

theorem loopBrass_updates : Updates s (loopBrass s).1 :=
  (subPzTick_updates _ 0 (State.gives_of_canonical (canonical_fadd _ _))).after <|
    (subDlTick_updates _ 0 _).after <| (subLipTick_updates _ 0 _ _).after (excite_updates s)

theorem loopPlucked_updates : Updates s (loopPlucked s).1 :=
  (subDlTick_updates _ 0 _).after (subOzTick_updates _ 0 (State.gives_of_canonical (canonical_fmul _ _)))

theorem loopBody_updates : Updates s (loopBody s).1 := by
  unfold loopBody
  cases s.voice.instr with
  | bowed => exact loopBowed_updates s
  | clarinet => exact loopClarinet_updates s
  | flute => exact loopFlute_updates s
  | brass => exact loopBrass_updates s
  | plucked => exact loopPlucked_updates s
  | none => exact .refl

/-- The sample of a loop body is a product, and 0.0 without an instrument. -/
theorem canonical_loopBody_sample : canonical (loopBody s).2 := by
  unfold loopBody
  cases s.voice.instr with
  | none => exact canonical_fZero
  | _ => exact canonical_fmul _ _

theorem pluckTicks_updates (n : Nat) : Updates s (pluckTicks n s) := by
  induction n generalizing s with
  | zero => exact .refl
  | succ n ih =>
    have tick : Updates s (pluckTick s) :=
      (subDlTick_updates _ 0 _).after <| (subOpTick_updates _ 1 _).after (subNsTick_updates s 0)
    exact (ih _).after tick

theorem pluckFill_updates (amp : F32) : Updates s (pluckFill amp s) :=
  (pluckTicks_updates _ _).after <| (subOpSetGain_updates _ 1 (State.gives_of_canonical (canonical_fmul _ _))).after
    (subOpSetPole_updates _ 1 (State.gives_of_canonical (canonical_fsub _ _)))

theorem configureUnits_updates (i : Instrument) : Updates s (configureUnits i s) := by
  have const {t : State} {x : F32} (h : canonical x) : t.Gives x := State.gives_of_canonical h
  cases i with
  | bowed =>
    exact (subOscSetFreq_updates _ 0 _).after <|
      (subBowSetSlope_updates _ 0 (const (canonical_fDec 3 1))).after <|
      (subBowSetOffset_updates _ 0 (const canonical_fZero)).after <|
      (subBqSetCoef_updates _ 0 2 (const (canonical_fDecNeg 2 10))).after <|
      (subBqSetCoef_updates _ 0 1 (const canonical_fZero)).after <|
      (subBqSetCoef_updates _ 0 0 (const (canonical_fDec 2 10))).after <|
      (subBqSetFreqReson_updates _ 0 _ _).after <|
      (subOpSetPole_updates _ 0 (const (canonical_fDec 55 100))).after
      (subOpSetGain_updates _ 0 (const (canonical_fDec 95 100)))
  | clarinet =>
    exact (subOscSetFreq_updates _ 0 _).after <|
      (subReedSetSlope_updates _ 0 (const (canonical_fDecNeg 3 10))).after <|
      (subReedSetOffset_updates _ 0 (const (canonical_fDec 7 10))).after <|
      (subOzSetZero_updates _ 0 (const canonical_fMinusOne)).after
      (subOzSetGain_updates _ 0 (const (canonical_fDec 95 100)))
  | flute =>
    exact (subOscSetFreq_updates _ 0 _).after <|
      (subPzSetBlockZero_updates _ 0 (const (canonical_fDec 99 100))).after <|
      (subOpSetPole_updates _ 0 (const (canonical_fDec 65 100))).after
      (subOpSetGain_updates _ 0 (const canonical_fMinusOne))
  | brass =>
    exact (subOscSetFreq_updates _ 0 _).after <|
      (subPzSetBlockZero_updates _ 0 (const (canonical_fDec 99 100))).after <|
      (subLipSetCoef_updates _ 0 2 (const (canonical_fDecNeg 1 10))).after <|
      (subLipSetCoef_updates _ 0 1 (const canonical_fZero)).after
      (subLipSetCoef_updates _ 0 0 (const (canonical_fDec 1 10)))
  | plucked =>
    exact (subOzSetZero_updates _ 0 (const canonical_fMinusOne)).after
      (subOzSetGain_updates _ 0 (const canonical_fOne))
  | none => exact .refl

theorem voiceReset_updates : Updates s (voiceReset s) :=
  (setVoice_updates _ .silence).after <| (subOscReset_updates _ 0).after <| (subEnvSetValue_updates _ 0 _).after <|
    (subLipClear_updates _ 0).after <| (subBqClear_updates _ 0).after <| (subPzClear_updates _ 0).after <|
    (subOzClear_updates _ 0).after <| (subOpClear_updates _ 1).after <| (subOpClear_updates _ 0).after <|
    (subDlClear_updates _ 1).after (subDlClear_updates _ 0)

theorem selectInstrument_updates (i : Instrument) : Updates s (selectInstrument i s) :=
  (setFreq_updates _ (State.gives_voice (by simp [Voice.floats]))).after <| (voiceReset_updates _).after <|
    (configureUnits_updates _ i).after (setVoice_updates _ (.select i))

theorem startExcitation_updates (amp : F32) : Updates s (startExcitation amp s) := by
  unfold startExcitation
  split
  · exact (pluckFill_updates _ amp).after
      (setVoice_updates _ (.setReg 21 s.voice.loopGainOn (State.gives_voice (by simp [Voice.floats])) _ rfl))
  · exact (subEnvSetTarget_updates _ 0 _).after (subEnvSetRate_updates _ 0 _)

theorem noteOn_updates {f : F32} (hf : canonical f) (amp : F32) : Updates s (noteOn f amp s) :=
  (setVoice_updates _ (.setState .sounding)).after <| (startExcitation_updates _ _).after <|
    (setFreq_updates _ (State.gives_of_canonical hf)).after <|
    (setVoice_updates _ (.setAmp amp)).after (raiseIf_updates _ _ _)

theorem releaseExcitation_updates (amp : F32) : Updates s (releaseExcitation amp s) := by
  unfold releaseExcitation
  split
  · exact setVoice_updates _ (.setReg 21 _ (State.gives_of_canonical (canonical_fsub _ _)) _ rfl)
  · exact (subEnvSetTarget_updates _ 0 _).after (subEnvSetRate_updates _ 0 _)

theorem noteOff_updates (amp : F32) : Updates s (noteOff amp s) := by
  unfold noteOff
  extract_lets s1 s2
  have h : Updates s s2 := (releaseExcitation_updates _ _).after (raiseIf_updates _ _ _)
  split
  · exact (setVoice_updates _ (.setState _)).after h
  · exact h

theorem releaseCheck_updates : Updates s (releaseCheck s) := by
  unfold releaseCheck
  split
  · exact setVoice_updates _ (.setState _)
  · exact .refl

theorem voiceTick_updates : Updates s (voiceTick s) :=
  (answer_updates _ _).after <| (releaseCheck_updates _).after <| (Update.setTickCount _).once.after <|
    (setVoice_updates _ (.setLast _ (State.gives_of_canonical (canonical_loopBody_sample s)))).after
    (loopBody_updates s)

theorem ccPosition_updates (v : F32) : Updates s (ccPosition v s) :=
  (distribute_updates _ _).after
    (setVoice_updates _ (.setReg 9 _ (State.gives_of_canonical (canonical_fadd _ _)) _ rfl))

/-- Every action of the controller map (spec/45_voice.md R433). -/
theorem ccAction_updates {i : Instrument} {num : Nat} {act : F32 → State → State} (h : ccAction i num = some act)
    (v : F32) : Updates s (act v s) := by
  have vibrato (k : F32) : Updates s (ccVibrato k v s) :=
    setVoice_updates _ (.setReg 18 _ (State.gives_of_canonical (canonical_fmul _ _)) _ rfl)
  have noise : Updates s (ccNoise v s) :=
    setVoice_updates _ (.setReg 17 _ (State.gives_of_canonical (canonical_fmul _ _)) _ rfl)
  have rate : Updates s (ccRate v s) := subOscSetFreq_updates _ 0 _
  unfold ccAction at h
  split at h <;> cases h
  · exact vibrato _
  · exact subBowSetSlope_updates _ 0 (State.gives_of_canonical (canonical_fsub _ _))
  · exact ccPosition_updates s v
  · exact rate
  · exact vibrato _
  · exact subReedSetSlope_updates _ 0 (State.gives_of_canonical (canonical_fadd _ _))
  · exact noise
  · exact rate
  · exact vibrato _
  · exact noise
  · exact rate
  · exact vibrato _
  · exact rate

theorem controlChange_updates (num : Nat) (v : F32) : Updates s (controlChange num v s) := by
  unfold controlChange
  split
  · exact raise_updates _ _
  · exact (ccAction_updates _ ‹_› _).after (raiseIf_updates _ _ _)

end

/-! ## Commands and steps -/

/-- What a command leaves: a sequence of updates from its start, and the response (spec/30_encoding.md R148). -/
def Ran (s t : State) : Prop := ∃ r, Updates (startCommand s) r ∧ t = endCommand r

theorem command_ran {body : State → State} (h : ∀ s, Updates s (body s)) {s t : State}
    (ht : command body s = .next t) : Ran s t := by
  rw [command_eq] at ht
  cases ht
  exact ⟨_, h _, rfl⟩

theorem unitCommand_ran {n u : Nat} {body : State → State} (h : ∀ s, Updates s (body s)) {s t : State}
    (ht : command (onUnit n u body) s = .next t) : Ran s t :=
  command_ran (fun s => onUnit_updates s n u (h s)) ht

theorem voiceCommand_ran {body : State → State} (h : ∀ s, Updates s (body s)) {s t : State}
    (ht : command (onVoice body) s = .next t) : Ran s t :=
  command_ran (fun s => onVoice_updates s (h s)) ht

/-- Every command is a sequence of updates between its start and its response. -/
theorem exec_ran {i : Instr} {s t : State} (h : exec i s = .next t) : Ran s t := by
  have operand (w : Word) {s : State} : s.Gives (asF32 w) := State.gives_of_canonical (canonical_asF32 w)
  cases i with
  | sysNop => exact command_ran (fun _ => .refl) h
  | sysReset => exact command_ran (fun _ => Update.reset.once) h
  | sysRdReg reg => exact command_ran (fun s => answerReg_updates s _) h
  | sysWrReg reg v => exact command_ran (fun s => sysWrite_updates s reg v) h
  | dlSetDelay u lag => exact unitCommand_ran (fun s => subDlSetDelay_updates s u _) h
  | dlTick u x => exact unitCommand_ran (fun s => answerWith_updates s (subDlTick_updates s u _)) h
  | dlLastOut u => exact unitCommand_ran (fun s => answer_updates s _) h
  | dlClear u => exact unitCommand_ran (fun s => subDlClear_updates s u) h
  | dlBufRd u k =>
    refine unitCommand_ran (fun s => ?_) h
    split
    · exact answer_updates s _
    · exact refuse_updates s
  | dlRdReg u reg => exact unitCommand_ran (fun s => answerReg_updates s _) h
  | opSetPole u p => exact unitCommand_ran (fun s => subOpSetPole_updates s u (operand p)) h
  | opSetGain u g => exact unitCommand_ran (fun s => subOpSetGain_updates s u (operand g)) h
  | opTick u x => exact unitCommand_ran (fun s => answerWith_updates s (subOpTick_updates s u _)) h
  | opClear u => exact unitCommand_ran (fun s => subOpClear_updates s u) h
  | opLastOut u => exact unitCommand_ran (fun s => answer_updates s _) h
  | opRdReg u reg => exact unitCommand_ran (fun s => answerReg_updates s _) h
  | ozSetZero u z => exact unitCommand_ran (fun s => subOzSetZero_updates s u (operand z)) h
  | ozSetGain u g => exact unitCommand_ran (fun s => subOzSetGain_updates s u (operand g)) h
  | ozTick u x => exact unitCommand_ran (fun s => answerWith_updates s (subOzTick_updates s u (operand x))) h
  | ozClear u => exact unitCommand_ran (fun s => subOzClear_updates s u) h
  | ozLastOut u => exact unitCommand_ran (fun s => answer_updates s _) h
  | ozRdReg u reg => exact unitCommand_ran (fun s => answerReg_updates s _) h
  | pzSetA1 u v => exact unitCommand_ran (fun s => (Update.pz u _ (.setA1 _ (operand v))).once) h
  | pzSetB0 u v => exact unitCommand_ran (fun s => (Update.pz u _ (.setB0 _ (operand v))).once) h
  | pzSetB1 u v => exact unitCommand_ran (fun s => (Update.pz u _ (.setB1 _ (operand v))).once) h
  | pzSetBlockZero u p => exact unitCommand_ran (fun s => subPzSetBlockZero_updates s u (operand p)) h
  | pzTick u x => exact unitCommand_ran (fun s => answerWith_updates s (subPzTick_updates s u (operand x))) h
  | pzClear u => exact unitCommand_ran (fun s => subPzClear_updates s u) h
  | pzLastOut u => exact unitCommand_ran (fun s => answer_updates s _) h
  | pzRdReg u reg => exact unitCommand_ran (fun s => answerReg_updates s _) h
  | bqSetFreqReson u f r => exact unitCommand_ran (fun s => subBqSetFreqReson_updates s u _ _) h
  | bqSetEqualGainZeroes u => exact unitCommand_ran (fun s => (Update.bq u _ (.coef _ .setEqualGainZeroes)).once) h
  | bqTick u x => exact unitCommand_ran (fun s => answerWith_updates s (subBqTick_updates s u _)) h
  | bqClear u => exact unitCommand_ran (fun s => subBqClear_updates s u) h
  | bqLastOut u => exact unitCommand_ran (fun s => answer_updates s _) h
  | bqSetCoef u k v => exact unitCommand_ran (fun s => subBqSetCoef_updates s u k (operand v)) h
  | bqRdReg u reg => exact unitCommand_ran (fun s => answerReg_updates s _) h
  | bowSetOffset u v => exact unitCommand_ran (fun s => subBowSetOffset_updates s u (operand v)) h
  | bowSetSlope u v => exact unitCommand_ran (fun s => subBowSetSlope_updates s u (operand v)) h
  | bowTick u x => exact unitCommand_ran (fun s => answerWith_updates s (subBowTick_updates s u _)) h
  | bowRdReg u reg => exact unitCommand_ran (fun s => answerReg_updates s _) h
  | reedSetOffset u v => exact unitCommand_ran (fun s => subReedSetOffset_updates s u (operand v)) h
  | reedSetSlope u v => exact unitCommand_ran (fun s => subReedSetSlope_updates s u (operand v)) h
  | reedTick u x => exact unitCommand_ran (fun s => answerWith_updates s (subReedTick_updates s u _)) h
  | reedRdReg u reg => exact unitCommand_ran (fun s => answerReg_updates s _) h
  | jetTick u x => exact unitCommand_ran (fun s => answerWith_updates s (subJetTick_updates s u _)) h
  | jetRdReg u reg => exact unitCommand_ran (fun s => answerReg_updates s _) h
  | lipSetFreqReson u f r => exact unitCommand_ran (fun s => subLipSetFreqReson_updates s u _ _) h
  | lipSetEqualGainZeroes u => exact unitCommand_ran (fun s => (Update.lip u _ (.coef _ .setEqualGainZeroes)).once) h
  | lipTick u x y => exact unitCommand_ran (fun s => answerWith_updates s (subLipTick_updates s u _ _)) h
  | lipClear u => exact unitCommand_ran (fun s => subLipClear_updates s u) h
  | lipLastOut u => exact unitCommand_ran (fun s => answer_updates s _) h
  | lipSetCoef u k v => exact unitCommand_ran (fun s => subLipSetCoef_updates s u k (operand v)) h
  | lipRdReg u reg => exact unitCommand_ran (fun s => answerReg_updates s _) h
  | envSetRate u r => exact unitCommand_ran (fun s => subEnvSetRate_updates s u _) h
  | envSetTarget u t => exact unitCommand_ran (fun s => subEnvSetTarget_updates s u _) h
  | envSetValue u v => exact unitCommand_ran (fun s => subEnvSetValue_updates s u _) h
  | envKeyOn u => exact unitCommand_ran (fun s => (Update.env u _ (.aim fOne (by decide))).once) h
  | envKeyOff u => exact unitCommand_ran (fun s => (Update.env u _ (.aim fZero (by decide))).once) h
  | envTick u => exact unitCommand_ran (fun s => answerWith_updates s (subEnvTick_updates s u)) h
  | envRdReg u reg => exact unitCommand_ran (fun s => answerReg_updates s _) h
  | adsrSetAttack u r =>
    exact unitCommand_ran (fun s => (raiseIf_updates _ _ _).after (Update.adsr u _ (.setAttack _)).once) h
  | adsrSetDecay u r =>
    exact unitCommand_ran (fun s => (raiseIf_updates _ _ _).after (Update.adsr u _ (.setDecay _)).once) h
  | adsrSetSustain u v =>
    refine unitCommand_ran (fun s => ?_) h
    split
    · exact raise_updates s _
    · exact (raiseIf_updates _ _ _).after (Update.adsr u _ (.setSustain _ (by simpa using ‹¬ isNaN _ = true›))).once
  | adsrSetRelease u r =>
    exact unitCommand_ran (fun s => (raiseIf_updates _ _ _).after (Update.adsr u _ (.setRelease _)).once) h
  | adsrKeyOn u => exact unitCommand_ran (fun s => (Update.adsr u _ .keyOn).once) h
  | adsrKeyOff u => exact unitCommand_ran (fun s => (Update.adsr u _ .keyOff).once) h
  | adsrTick u => exact unitCommand_ran (fun s => (answer_updates _ _).after (Update.adsr u _ .tick).once) h
  | adsrRdReg u reg => exact unitCommand_ran (fun s => answerReg_updates s _) h
  | nsSeed u w =>
    have seed_ne : (if w = 0#32 then 1#32 else w) ≠ 0#32 := by
      split
      · decide
      · assumption
    exact unitCommand_ran (fun s => (raiseIf_updates _ _ _).after (Update.ns u _ (.seed _ seed_ne)).once) h
  | nsTick u => exact unitCommand_ran (fun s => answerWith_updates s (subNsTick_updates s u)) h
  | nsRdReg u reg => exact unitCommand_ran (fun s => answerReg_updates s _) h
  | oscSetFreq u f => exact unitCommand_ran (fun s => subOscSetFreq_updates s u _) h
  | oscReset u => exact unitCommand_ran (fun s => subOscReset_updates s u) h
  | oscTick u => exact unitCommand_ran (fun s => answerWith_updates s (subOscTick_updates s u)) h
  | oscTblWr u k v =>
    refine unitCommand_ran (fun s => ?_) h
    split
    · exact (Update.osc u _ (.write k _ ‹_›)).once
    · exact refuse_updates s
  | oscTblRd u k =>
    refine unitCommand_ran (fun s => ?_) h
    split
    · exact answer_updates s _
    · exact refuse_updates s
  | oscRdReg u reg => exact unitCommand_ran (fun s => answerReg_updates s _) h
  | vNoteOn f a => exact voiceCommand_ran (fun s => noteOn_updates s (canonical_asF32 f) _) h
  | vNoteOff a => exact voiceCommand_ran (fun s => noteOff_updates s _) h
  | vSetFreq f => exact voiceCommand_ran (fun s => setFreq_updates s (operand f)) h
  | vTick => exact voiceCommand_ran voiceTick_updates h
  | vCc num v => exact voiceCommand_ran (fun s => controlChange_updates s num _) h
  | vSetInstr id =>
    simp only [exec, execVSetInstr] at h
    refine command_ran (fun s => ?_) h
    split
    · exact selectInstrument_updates s _
    · exact refuse_updates s
  | vReset => exact voiceCommand_ran voiceReset_updates h
  | vLastOut => exact voiceCommand_ran (fun s => answer_updates s _) h
  | vRdReg reg => exact command_ran (fun s => answerReg_updates s _) h
  | vWrReg reg v =>
    simp only [exec, execVWrReg] at h
    refine command_ran (fun s => ?_) h
    split
    · exact setVoice_updates _ (.setReg reg _ (operand v) _ ‹_›)
    · exact refuse_updates s

theorem runPacket_ran {p : Packet} {s t : State} (h : runPacket p s = .next t) : Ran s t := by
  unfold runPacket at h
  split at h
  · exact exec_ran h
  · exact command_ran refuse_updates h

/-- Everything a step can do: an idle cycle, a reset, or a command; the host's events move on. -/
theorem step_cases {s t : State} (h : step s = .next t) :
    ∃ es, t = idleCycle { s with inbox := es } ∨ t = restart { s with inbox := es } ∨ Ran { s with inbox := es } t := by
  unfold step serve at h
  split at h
  · cases h; exact ⟨s.inbox, .inl rfl⟩
  · cases h; exact ⟨_, .inl rfl⟩
  · exact ⟨_, .inr (.inr (runPacket_ran h))⟩
  · cases h; exact ⟨_, .inr (.inl rfl)⟩
  · cases h; exact ⟨_, .inr (.inl rfl)⟩

end Sys2Proof.Machine

/-! The invariants of spec/00_scope.md that every step keeps: what the build fixes, canonical words, soundness. Each is
proved per move, then per update, and carried to a step by `step_cases`. -/

namespace Sys2Proof.Machine

/-! ## What the build fixes (R10 to R15) -/

theorem buildKept_refl (s : State) : buildKept s s := ⟨rfl, rfl, rfl, rfl, rfl, fun _ => rfl⟩

theorem buildKept.trans {s t r : State} (h : buildKept s t) (h' : buildKept t r) : buildKept s r := by
  obtain ⟨fs, noise, cosine, lines, tables, counts⟩ := h
  obtain ⟨fs', noise', cosine', lines', tables', counts'⟩ := h'
  exact ⟨fs'.trans fs, noise'.trans noise, cosine'.trans cosine, lines'.trans lines, tables'.trans tables,
    fun c => (counts' c).trans (counts c)⟩

theorem LineMove.len_eq {d d' : DelayLine} (h : LineMove d d') : d'.len = d.len := by
  cases d
  cases h <;> rfl

theorem OscMove.len_eq {fs : F32} {q q' : Osc} (h : OscMove fs q q') : q'.len = q.len := by
  cases q
  cases h <;> rfl

theorem buildKept_restart (s : State) : buildKept s (restart s) :=
  ⟨rfl, rfl, rfl, by simp [restart, DelayLine.reset, Function.comp_def],
    by simp [restart, Osc.reset, Function.comp_def], fun c => by cases c <;> simp [restart, unitCount]⟩

theorem Update.buildKept {s t : State} (h : Update s t) : buildKept s t := by
  cases h with
  | warn | reply | clearStatus | setIrqEn | setTickCount | draw | voice => exact buildKept_refl s
  | reset => exact buildKept_restart s
  | dl u q h =>
    exact ⟨rfl, rfl, rfl, map_set_of_eq h.len_eq, rfl, fun c => by cases c <;> simp [unitCount]⟩
  | osc u q h =>
    exact ⟨rfl, rfl, rfl, rfl, map_set_of_eq h.len_eq, fun c => by cases c <;> simp [unitCount]⟩
  | _ => exact ⟨rfl, rfl, rfl, rfl, rfl, fun c => by cases c <;> simp [unitCount]⟩

theorem Updates.buildKept {s t : State} (h : Updates s t) : buildKept s t :=
  h.keeps (P := Machine.buildKept s) (fun _ _ hu hk => hk.trans hu.buildKept) (buildKept_refl s)

theorem Ran.buildKept {s t : State} (h : Ran s t) : Machine.buildKept s t := by
  obtain ⟨r, hr, rfl⟩ := h
  exact hr.buildKept

/-- Settles O15: every update keeps what the build fixes. -/
theorem everyStepKeepsTheBuild : Obligations.EveryStepKeepsTheBuild := by
  intro s t h
  obtain ⟨es, rfl | rfl | ht⟩ := step_cases h
  · exact buildKept_refl s
  · exact buildKept_restart _
  · exact ht.buildKept

/-! ## Canonical words (R19) -/

section
variable {ok : F32 → Prop} {m : Config.CosineModel} {fs : F32}

theorem LineMove.allCanonical {d d' : DelayLine} (h : LineMove d d') (hd : AllCanonical d.floats) :
    AllCanonical d'.floats := by
  simp only [DelayLine.floats, allCanonical_append, allCanonical_cons] at hd
  obtain ⟨⟨lag, alpha, omalpha, last, -⟩, buf⟩ := hd
  cases h with
  | setDelay l => simp [DelayLine.floats, dlSetDelay, last, buf]
  | tick x => simp [DelayLine.floats, dlTick, dlOut, dlWritten, lag, alpha, omalpha, allCanonical_memWrite buf]
  | clear => simp [DelayLine.floats, dlClear, memZero, lag, alpha, omalpha]

theorem OnePoleMove.allCanonical {q q' : OnePole} (h : OnePoleMove ok q q') (hok : ∀ x, ok x → canonical x)
    (hq : AllCanonical q.floats) : AllCanonical q'.floats := by
  simp only [OnePole.floats, allCanonical_cons] at hq
  obtain ⟨pole, gain, sgain, last, -⟩ := hq
  cases h with
  | setPole p hp => simp [OnePole.floats, opSetPole, opSgain, hok p hp, gain, last]
  | setGain g hg => simp [OnePole.floats, opSetGain, opSgain, hok g hg, pole, last]
  | tick x => simp [OnePole.floats, opTick, opOut, pole, gain, sgain]
  | clear => simp [OnePole.floats, opClear, pole, gain, sgain]

theorem OneZeroMove.allCanonical {q q' : OneZero} (h : OneZeroMove ok q q') (hok : ∀ x, ok x → canonical x)
    (hq : AllCanonical q.floats) : AllCanonical q'.floats := by
  simp only [OneZero.floats, allCanonical_cons] at hq
  obtain ⟨zero, gain, b0, b1, x1, last, -⟩ := hq
  cases h with
  | setZero z hz => simp [OneZero.floats, ozSetZero, ozB0, ozB1, hok z hz, gain, x1, last]
  | setGain g hg => simp [OneZero.floats, ozSetGain, ozB0, ozB1, hok g hg, zero, x1, last]
  | tick x hx => simp [OneZero.floats, ozTick, ozOut, hok x hx, zero, gain, b0, b1]
  | clear => simp [OneZero.floats, ozClear, zero, gain, b0, b1]

theorem PoleZeroMove.allCanonical {q q' : PoleZero} (h : PoleZeroMove ok q q') (hok : ∀ x, ok x → canonical x)
    (hq : AllCanonical q.floats) : AllCanonical q'.floats := by
  simp only [PoleZero.floats, allCanonical_cons] at hq
  obtain ⟨a1, b0, b1, x1, last, -⟩ := hq
  cases h with
  | setA1 v hv => simp [PoleZero.floats, pzSetA1, hok v hv, b0, b1, x1, last]
  | setB0 v hv => simp [PoleZero.floats, pzSetB0, hok v hv, a1, b1, x1, last]
  | setB1 v hv => simp [PoleZero.floats, pzSetB1, hok v hv, a1, b0, x1, last]
  | setBlockZero p hp => simp [PoleZero.floats, pzSetBlockZero, hok p hp, x1, last]
  | tick x hx => simp [PoleZero.floats, pzTick, pzOut, hok x hx, a1, b0, b1]
  | clear => simp [PoleZero.floats, pzClear, a1, b0, b1]

theorem CoefMove.allCanonical {q q' : Biquad} (h : CoefMove ok m fs q q') (hok : ∀ x, ok x → canonical x)
    (hq : AllCanonical q.floats) : AllCanonical q'.floats := by
  simp only [Biquad.floats, allCanonical_cons] at hq
  obtain ⟨b0, b1, b2, a1, a2, w1, w2, last, -⟩ := hq
  cases h with
  | setFreqReson f r => simp [Biquad.floats, bqSetFreqReson, b0, b1, b2, w1, w2, last]
  | setEqualGainZeroes => simp [Biquad.floats, bqSetEqualGainZeroes, a1, a2, w1, w2, last]
  | setCoef k v hv q' h =>
    have hv := hok v hv
    unfold bqSetCoef at h
    split at h <;> cases h <;> simp [Biquad.floats, hv, b0, b1, b2, a1, a2, w1, w2, last]

theorem allCanonical_bqTick {q : Biquad} (hq : AllCanonical q.floats) (x : F32) :
    AllCanonical (bqTick q x).floats := by
  simp only [Biquad.floats, allCanonical_cons] at hq
  obtain ⟨b0, b1, b2, a1, a2, w1, w2, last, -⟩ := hq
  simp [Biquad.floats, bqTick, bqState, bqOut, b0, b1, b2, a1, a2, w1]

theorem allCanonical_bqClear {q : Biquad} (hq : AllCanonical q.floats) : AllCanonical (bqClear q).floats := by
  simp only [Biquad.floats, allCanonical_cons] at hq
  obtain ⟨b0, b1, b2, a1, a2, w1, w2, last, -⟩ := hq
  simp [Biquad.floats, bqClear, b0, b1, b2, a1, a2]

theorem BiquadMove.allCanonical {q q' : Biquad} (h : BiquadMove ok m fs q q') (hok : ∀ x, ok x → canonical x)
    (hq : AllCanonical q.floats) : AllCanonical q'.floats := by
  cases h with
  | coef _ h => exact h.allCanonical hok hq
  | tick x => exact allCanonical_bqTick hq x
  | clear => exact allCanonical_bqClear hq

theorem canonical_bowOut (q : Bow) (x : F32) : canonical (bowOut q x) :=
  canonical_ite (fun _ => canonical_fOne) fun _ => canonical_fdiv _ _

theorem BowMove.allCanonical {q q' : Bow} (h : BowMove ok q q') (hok : ∀ x, ok x → canonical x)
    (hq : AllCanonical q.floats) : AllCanonical q'.floats := by
  simp only [Bow.floats, allCanonical_cons] at hq
  obtain ⟨offset, slope, last, -⟩ := hq
  cases h with
  | setOffset v hv => simp [Bow.floats, hok v hv, slope, last]
  | setSlope v hv => simp [Bow.floats, hok v hv, offset, last]
  | tick x => simp [Bow.floats, bowTick, canonical_bowOut, offset, slope]

theorem canonical_reedOut (q : Reed) (x : F32) : canonical (reedOut q x) :=
  canonical_fclamp (canonical_fadd _ _) canonical_fMinusOne canonical_fOne

theorem ReedMove.allCanonical {q q' : Reed} (h : ReedMove ok q q') (hok : ∀ x, ok x → canonical x)
    (hq : AllCanonical q.floats) : AllCanonical q'.floats := by
  simp only [Reed.floats, allCanonical_cons] at hq
  obtain ⟨offset, slope, last, -⟩ := hq
  cases h with
  | setOffset v hv => simp [Reed.floats, hok v hv, slope, last]
  | setSlope v hv => simp [Reed.floats, hok v hv, offset, last]
  | tick x => simp [Reed.floats, reedTick, canonical_reedOut, offset, slope]

theorem JetMove.allCanonical {q q' : Jet} (h : JetMove q q') : AllCanonical q'.floats := by
  cases h with
  | tick x =>
    have out : canonical (jetOut x) := canonical_fclamp (canonical_fmul _ _) canonical_fMinusOne canonical_fOne
    simp [Jet.floats, jetTick, out]

theorem LipMove.allCanonical {q q' : Lip} (h : LipMove ok m fs q q') (hok : ∀ x, ok x → canonical x)
    (hq : AllCanonical q.floats) : AllCanonical q'.floats := by
  simp only [Lip.floats, allCanonical_append, allCanonical_cons] at hq ⊢
  obtain ⟨filter, last, -⟩ := hq
  cases h with
  | coef f h => exact ⟨h.allCanonical hok filter, last, allCanonical_nil⟩
  | tick x y => exact ⟨allCanonical_bqTick filter _, canonical_fadd _ _, allCanonical_nil⟩
  | clear => exact ⟨allCanonical_bqClear filter, canonical_fZero, allCanonical_nil⟩

theorem canonical_envMoved (q : Env) : canonical (envMoved q) :=
  canonical_ite (fun _ => canonical_fadd _ _) fun _ => canonical_fsub _ _

theorem EnvMove.allCanonical {q q' : Env} (h : EnvMove q q') (hq : AllCanonical q.floats) : AllCanonical q'.floats := by
  simp only [Env.floats, allCanonical_cons] at hq
  obtain ⟨value, target, rate, -⟩ := hq
  cases h with
  | setRate r => simp [Env.floats, value, target]
  | aim t ht => simp [Env.floats, envAim, canonical_of_not_nan ht, value, rate]
  | setValue v hv => simp [Env.floats, canonical_of_not_nan hv, rate]
  | tick =>
    unfold envTick
    split
    · simp [Env.floats, value, target, rate]
    · split
      · simp [Env.floats, target, rate]
      · simp [Env.floats, canonical_envMoved, target, rate]

theorem AdsrMove.allCanonical {q q' : Adsr} (h : AdsrMove q q') (hq : AllCanonical q.floats) :
    AllCanonical q'.floats := by
  simp only [Adsr.floats, allCanonical_cons] at hq
  obtain ⟨value, target, attack, decay, sustain, release, -⟩ := hq
  cases h with
  | setAttack r => simp [Adsr.floats, value, target, decay, sustain, release]
  | setDecay r => simp [Adsr.floats, value, target, attack, sustain, release]
  | setSustain v hv =>
    unfold adsrSetSustain
    split <;> simp [Adsr.floats, canonical_sustainLevel hv, value, target, attack, decay, release]
  | setRelease r => simp [Adsr.floats, value, target, attack, decay, sustain]
  | keyOn => simp [Adsr.floats, value, attack, decay, sustain, release]
  | keyOff => simp [Adsr.floats, value, attack, decay, sustain, release]
  | tick =>
    unfold adsrTick
    split
    · unfold adsrAttack
      split <;> simp [Adsr.floats, target, attack, decay, sustain, release]
    · unfold adsrDecay
      split <;> split <;> simp [Adsr.floats, target, attack, decay, sustain, release]
    · unfold adsrRelease
      split <;> simp [Adsr.floats, target, attack, decay, sustain, release]
    · simp [Adsr.floats, value, target, attack, decay, sustain, release]
    · simp [Adsr.floats, value, target, attack, decay, sustain, release]

theorem NoiseMove.allCanonical {q q' : Noise} (h : NoiseMove q q') (hq : AllCanonical q.floats) :
    AllCanonical q'.floats := by
  cases h with
  | seed w hw => exact hq
  | tick => simp [Noise.floats, nsTickXorshift, noiseSample]
  | draw n => simp [Noise.floats]

theorem canonical_oscWrap {len : Nat} {p : F32} (h : canonical p) : canonical (oscWrap len p) :=
  canonical_ite (fun _ => canonical_fsub _ _) fun _ => canonical_ite (fun _ => canonical_fadd _ _) fun _ => h

theorem canonical_oscNext (q : Osc) : canonical (oscNext q) :=
  canonical_ite (fun _ => canonical_fZero) fun _ => canonical_oscWrap (canonical_fadd _ _)

theorem OscMove.allCanonical {q q' : Osc} (h : OscMove fs q q') (hq : AllCanonical q.floats) :
    AllCanonical q'.floats := by
  cases q
  simp only [Osc.floats, allCanonical_append, allCanonical_cons] at hq
  obtain ⟨⟨freq, rate, phase, last, -⟩, tbl⟩ := hq
  cases h with
  | setFreq f => simp [Osc.floats, oscSetFreq, phase, last, tbl]
  | restart => simp [Osc.floats, oscRestart, freq, rate, tbl]
  | tick => simp [Osc.floats, oscTick, oscOut, canonical_oscNext, freq, rate, tbl]
  | write k v hk => simp [Osc.floats, freq, rate, phase, last, allCanonical_memWrite tbl]

/-- Every parameter of an instrument is a decimal constant, and `V.SETINSTR` keeps the status registers
(spec/45_voice.md R424). -/
theorem allCanonical_voiceDefaults {v : Voice} (hv : AllCanonical v.floats) (i : Instrument) :
    AllCanonical (voiceDefaults v i).floats := by
  have status := hv
  simp only [Voice.floats, allCanonical_cons] at status
  obtain ⟨freq, amp, baseDelay, last, -⟩ := status
  cases i with
  | none => exact hv
  | _ => simp [Voice.floats, voiceDefaults, freq, amp, baseDelay, last]

/-- A write of a parameter register replaces its word (spec/10_state.md R49). -/
theorem floats_voiceSet {v w : Voice} {k : Nat} {x : F32} (h : voiceSet v k x = some w) :
    w.floats = v.floats.set (k - 4) x := by
  unfold voiceSet at h
  split at h <;> cases h <;> rfl

theorem AllCanonical.set {l : List F32} (h : AllCanonical l) {x : F32} (hx : canonical x) (j : Nat) :
    AllCanonical (l.set j x) := fun y hy => by
  rcases List.mem_or_eq_of_mem_set hy with hy | rfl
  · exact h y hy
  · exact hx

end


section
variable {ok : F32 → Prop} {fs : F32}

theorem canonical_loopDelayClamped {max : F32} {v : Voice} {d : F32} (hmax : canonical max)
    (hmin : canonical v.minDelay) : canonical (loopDelayClamped max v d) :=
  canonical_ite (fun _ => hmin) fun h =>
    canonical_ite (fun _ => hmax) fun _ => canonical_of_not_nan (by simp_all)

theorem VoiceMove.allCanonical {v w : Voice} (h : VoiceMove ok fs v w) (hok : ∀ x, ok x → canonical x)
    (hv : AllCanonical v.floats) : AllCanonical w.floats := by
  cases h with
  | setReg k x hx w h => rw [floats_voiceSet h]; exact hv.set (hok x hx) _
  | tuned len f hf =>
    have default : canonical v.defaultFreq := hv _ (by simp [Voice.floats])
    have minDelay : canonical v.minDelay := hv _ (by simp [Voice.floats])
    have freq : canonical (voiceFreq v f) := canonical_ite (fun _ => hok f hf) fun _ => default
    exact (hv.set freq 0).set (canonical_loopDelayClamped (canonical_dlMax len) minDelay) 2
  | select i => exact allCanonical_voiceDefaults (v := { v with instr := i }) hv i
  | silence =>
    have loopGain : canonical v.loopGain := hv _ (by simp [Voice.floats])
    have loopGainOn : canonical v.loopGainOn := hv _ (by simp [Voice.floats])
    exact ((hv.set canonical_fZero 1).set canonical_fZero 3).set
      (canonical_ite (fun _ => loopGainOn) fun _ => loopGain) 17
  | setAmp x => exact hv.set (canonical_unitClamp x) 1
  | setState x => exact hv
  | setLast x hx => exact hv.set (hok x hx) 3

end

/-- No reset value is a NaN. -/
theorem canonicalUnits_restart (s : State) : (restart s).CanonicalUnits where
  dl := List.forall_mem_map.mpr fun _ _ => allCanonical_of_no_nan rfl
  op := List.forall_mem_map.mpr fun _ _ => allCanonical_of_no_nan rfl
  oz := List.forall_mem_map.mpr fun _ _ => allCanonical_of_no_nan rfl
  pz := List.forall_mem_map.mpr fun _ _ => allCanonical_of_no_nan rfl
  bq := List.forall_mem_map.mpr fun _ _ => allCanonical_of_no_nan rfl
  bow := List.forall_mem_map.mpr fun _ _ => allCanonical_of_no_nan rfl
  reed := List.forall_mem_map.mpr fun _ _ => allCanonical_of_no_nan rfl
  jet := List.forall_mem_map.mpr fun _ _ => allCanonical_of_no_nan rfl
  lip := List.forall_mem_map.mpr fun _ _ => allCanonical_of_no_nan rfl
  env := List.forall_mem_map.mpr fun _ _ => allCanonical_of_no_nan rfl
  adsr := List.forall_mem_map.mpr fun _ _ => allCanonical_of_no_nan rfl
  ns := List.forall_mem_map.mpr fun _ _ => allCanonical_of_no_nan rfl
  osc := List.forall_mem_map.mpr fun _ _ => allCanonical_of_no_nan rfl
  voice := allCanonical_of_no_nan rfl

theorem Update.canonicalUnits {s t : State} (h : Update s t) (hs : s.CanonicalUnits) : t.CanonicalUnits := by
  have gives (x : F32) (hx : s.Gives x) : canonical x := hx ((s.canonical_iff_units).mpr hs)
  cases h with
  | warn | reply | clearStatus | setIrqEn | setTickCount | draw => exact { hs with }
  | reset => exact canonicalUnits_restart s
  | dl u q h => exact { hs with dl := forall_mem_set hs.dl fun hq => h.allCanonical hq }
  | op u q h => exact { hs with op := forall_mem_set hs.op fun hq => h.allCanonical gives hq }
  | oz u q h => exact { hs with oz := forall_mem_set hs.oz fun hq => h.allCanonical gives hq }
  | pz u q h => exact { hs with pz := forall_mem_set hs.pz fun hq => h.allCanonical gives hq }
  | bq u q h => exact { hs with bq := forall_mem_set hs.bq fun hq => h.allCanonical gives hq }
  | bow u q h => exact { hs with bow := forall_mem_set hs.bow fun hq => h.allCanonical gives hq }
  | reed u q h => exact { hs with reed := forall_mem_set hs.reed fun hq => h.allCanonical gives hq }
  | jet u q h => exact { hs with jet := forall_mem_set (d := Jet.reset) hs.jet fun _ => h.allCanonical }
  | lip u q h => exact { hs with lip := forall_mem_set hs.lip fun hq => h.allCanonical gives hq }
  | env u q h => exact { hs with env := forall_mem_set hs.env fun hq => h.allCanonical hq }
  | adsr u q h => exact { hs with adsr := forall_mem_set hs.adsr fun hq => h.allCanonical hq }
  | ns u q h => exact { hs with ns := forall_mem_set hs.ns fun hq => h.allCanonical hq }
  | osc u q h => exact { hs with osc := forall_mem_set hs.osc fun hq => h.allCanonical hq }
  | voice v h => exact { hs with voice := h.allCanonical gives hs.voice }

/-- Settles O13: every update keeps the words of every unit and of the voice canonical. -/
theorem everyStepKeepsNaNsCanonical : Obligations.EveryStepKeepsNaNsCanonical := by
  intro s t hs h
  rw [State.canonical_iff_units] at hs ⊢
  obtain ⟨es, rfl | rfl | ⟨r, hr, rfl⟩⟩ := step_cases h
  · exact { hs with }
  · exact canonicalUnits_restart _
  · have start : (startCommand { s with inbox := es }).CanonicalUnits := { hs with }
    exact { hr.keeps (fun _ _ => Update.canonicalUnits) start with }

/-! ## Soundness (R11 to R13, spec/20_memory.md R101, spec/44_sources.md R381, spec/60_exceptions.md R535) -/

theorem LineMove.sound {d d' : DelayLine} (h : LineMove d d') (hd : lineSound d) : lineSound d' := by
  obtain ⟨hlen, hw, hr, hwf, hin⟩ := hd
  have hpos : 0 < d.len := hlen.1
  cases d
  cases h with
  | setDelay lag => exact ⟨hlen, hw, Nat.mod_lt _ hpos, hwf, hin⟩
  | tick x => exact ⟨hlen, Nat.mod_lt _ hpos, Nat.mod_lt _ hpos, memWrite_wf hwf _ _, memWrite_bound hin hw _⟩
  | clear => exact ⟨hlen, hw, hr, memZero_wf, fun c hc => absurd hc List.not_mem_nil⟩

theorem OscMove.sound {fs : F32} {q q' : Osc} (h : OscMove fs q q') (hq : tableSound q) : tableSound q' := by
  obtain ⟨hlen, hwf, hin⟩ := hq
  cases q
  cases h with
  | setFreq f => exact ⟨hlen, hwf, hin⟩
  | restart => exact ⟨hlen, hwf, hin⟩
  | tick => exact ⟨hlen, hwf, hin⟩
  | write k v hk => exact ⟨hlen, memWrite_wf hwf _ _, memWrite_bound hin hk _⟩

/-- A word that a shift by at least one place leaves as it is has been shifted out whole. -/
theorem eq_zero_of_shiftLeft_eq {x : Word} {k : Nat} (hk : 0 < k) (h : x <<< k = x) : x = 0#32 := by
  have iterated (n : Nat) : x <<< (k * n) = x := by
    induction n with
    | zero => simp
    | succ n ih => rw [Nat.mul_succ, BitVec.shiftLeft_add, ih, h]
  rw [← iterated 32]
  exact BitVec.shiftLeft_eq_zero (by omega)

theorem eq_zero_of_ushiftRight_eq {x : Word} {k : Nat} (hk : 0 < k) (h : x >>> k = x) : x = 0#32 := by
  have iterated (n : Nat) : x >>> (k * n) = x := by
    induction n with
    | zero => simp
    | succ n ih => rw [Nat.mul_succ, BitVec.shiftRight_add, ih, h]
  rw [← iterated 32]
  exact BitVec.ushiftRight_eq_zero (by omega)

/-- The generator does not reach the zero state (spec/44_sources.md R381): each of its three steps keeps a word nonzero. -/
theorem xorshift32_ne_zero {x : Word} (hx : x ≠ 0#32) : xorshift32 x ≠ 0#32 := by
  have left {y : Word} {k : Nat} (hk : 0 < k) (hy : y ≠ 0#32) : y ^^^ (y <<< k) ≠ 0#32 := fun h =>
    hy (eq_zero_of_shiftLeft_eq hk (BitVec.xor_eq_zero_iff.mp h).symm)
  have right {y : Word} {k : Nat} (hk : 0 < k) (hy : y ≠ 0#32) : y ^^^ (y >>> k) ≠ 0#32 := fun h =>
    hy (eq_zero_of_ushiftRight_eq hk (BitVec.xor_eq_zero_iff.mp h).symm)
  exact left (by decide) (right (by decide) (left (by decide) hx))

theorem NoiseMove.state_ne_zero {q q' : Noise} (h : NoiseMove q q') (hq : q.state ≠ 0#32) : q'.state ≠ 0#32 := by
  cases h with
  | seed w hw => exact hw
  | tick => exact xorshift32_ne_zero hq
  | draw n => exact hq

/-- The part of soundness that holds inside a command too: the counts are the build's, and irq follows at the response. -/
structure State.SoundInside (s : State) : Prop where
  dl : ∀ d ∈ s.dl, lineSound d
  osc : ∀ o ∈ s.osc, tableSound o
  ns : ∀ n ∈ s.ns, n.state ≠ 0#32
  lastWarn : s.lastWarn.toNat ≤ 8

theorem State.sound_iff {s : State} :
    s.Sound ↔ countsLegal s ∧ s.SoundInside ∧ s.irq = irqLine s.status s.irqEn :=
  ⟨fun ⟨counts, dl, osc, ns, lastWarn, irq⟩ => ⟨counts, ⟨dl, osc, ns, lastWarn⟩, irq⟩,
    fun ⟨counts, ⟨dl, osc, ns, lastWarn⟩, irq⟩ => ⟨counts, dl, osc, ns, lastWarn, irq⟩⟩

theorem countsLegal_of_buildKept {s t : State} (h : buildKept s t) (hs : countsLegal s) : countsLegal t := by
  obtain ⟨-, -, -, -, -, counts⟩ := h
  have dl := counts .dl
  have op := counts .op
  have oz := counts .oz
  have pz := counts .pz
  have bq := counts .bq
  have bow := counts .bow
  have reed := counts .reed
  have jet := counts .jet
  have lip := counts .lip
  have env := counts .env
  have adsr := counts .adsr
  have ns := counts .ns
  have osc := counts .osc
  simp only [unitCount] at dl op oz pz bq bow reed jet lip env adsr ns osc
  simpa only [countsLegal, dl, op, oz, pz, bq, bow, reed, jet, lip, env, adsr, ns, osc] using hs

theorem warnCode_le (w : Warning) : warnCode w ≤ 8 := by cases w <;> decide

theorem soundInside_restart {s : State} (hs : s.SoundInside) : (restart s).SoundInside where
  dl := by
    simp only [restart, List.forall_mem_map]
    intro d hd
    obtain ⟨hlen, -⟩ := hs.dl d hd
    exact ⟨hlen, hlen.1, hlen.1, memZero_wf, fun c hc => absurd hc List.not_mem_nil⟩
  osc := by
    simp only [restart, List.forall_mem_map]
    intro o ho
    obtain ⟨hlen, -⟩ := hs.osc o ho
    exact ⟨hlen, memZero_wf, fun c hc => absurd hc List.not_mem_nil⟩
  ns := by simp [restart, Noise.reset]
  lastWarn := by simp [restart]

/-- With STATUS and IRQ_EN cleared the line is low. -/
theorem irq_restart (s : State) : (restart s).irq = irqLine (restart s).status (restart s).irqEn := by
  simp [restart, irqLine]

theorem Update.soundInside {s t : State} (h : Update s t) (hs : s.SoundInside) : t.SoundInside := by
  cases h with
  | warn w =>
    refine { hs with lastWarn := ?_ }
    have := warnCode_le w
    simp only [raise_lastWarn, BitVec.toNat_ofNat]
    omega
  | reset => exact soundInside_restart hs
  | dl u q h => exact { hs with dl := forall_mem_set hs.dl fun hq => h.sound hq }
  | ns u q h => exact { hs with ns := forall_mem_set hs.ns fun hq => h.state_ne_zero hq }
  | osc u q h => exact { hs with osc := forall_mem_set hs.osc fun hq => h.sound hq }
  | _ => exact { hs with }

/-- Settles O11: every update keeps the lines, the tables, the noise states and LAST_WARN sound, the counts are the
build's, and irq is set by the response from STATUS and IRQ_EN. -/
theorem everyStepKeepsSoundness : Obligations.EveryStepKeepsSoundness := by
  intro s t hs h
  obtain ⟨counts, inside, irq⟩ := State.sound_iff.mp hs
  refine State.sound_iff.mpr ⟨countsLegal_of_buildKept (everyStepKeepsTheBuild s t h) counts, ?_⟩
  obtain ⟨es, rfl | rfl | ⟨r, hr, rfl⟩⟩ := step_cases h
  · exact ⟨{ inside with }, irq⟩
  · exact ⟨soundInside_restart { inside with }, irq_restart _⟩
  · have start : (startCommand { s with inbox := es }).SoundInside := { inside with }
    exact ⟨{ hr.keeps (fun _ _ => Update.soundInside) start with }, rfl⟩

end Sys2Proof.Machine

/-! Rounding (spec/00_scope.md R18): a magnitude as a number of units of 2^-149, the rounding of a quotient to 24 bits,
and that the rounded quotient is the nearest binary32 value, ties to even. -/

namespace Sys2Proof.Machine

/-! ## The value of a magnitude -/

/-- The value of a magnitude, in units of 2^-149; a function on all numbers, infinities and beyond included. -/
def magUnits (m : Nat) : Nat :=
  if m / 8388608 = 0 then m else (8388608 + m % 8388608) * 2 ^ (m / 8388608 - 1)

theorem scaled_eq_magUnits (x : F32) : scaled x = magUnits (fMag x) := rfl

theorem magUnits_subnormal {f : Nat} (hf : f < 8388608) : magUnits f = f := by
  simp [magUnits, Nat.div_eq_of_lt hf]

theorem magUnits_binade {s f : Nat} (hf : f < 8388608) :
    magUnits ((s + 1) * 8388608 + f) = (8388608 + f) * 2 ^ s := by
  have hdiv : ((s + 1) * 8388608 + f) / 8388608 = s + 1 := by omega
  have hmod : ((s + 1) * 8388608 + f) % 8388608 = f := by omega
  simp [magUnits, hdiv, hmod]

/-- Every magnitude is a subnormal or lies in a binade. -/
theorem magnitude_cases (k : Nat) :
    k < 8388608 ∨ ∃ s f, f < 8388608 ∧ k = (s + 1) * 8388608 + f := by
  by_cases h : k < 8388608
  · exact .inl h
  · exact .inr ⟨k / 8388608 - 1, k % 8388608, by omega, by omega⟩

/-- `s` whole binades and a significand of 24 bits at most: a carry of the significand is the next binade. -/
theorem magUnits_significand {s n : Nat} (hs : s = 0 ∨ 8388608 ≤ n) (hn : n ≤ 16777216) :
    magUnits (s * 8388608 + n) = n * 2 ^ s := by
  by_cases h1 : n < 8388608
  · obtain rfl : s = 0 := by omega
    simpa using magUnits_subnormal h1
  · by_cases h2 : n < 16777216
    · have := magUnits_binade (s := s) (f := n - 8388608) (by omega)
      rwa [show (s + 1) * 8388608 + (n - 8388608) = s * 8388608 + n by omega,
        show 8388608 + (n - 8388608) = n by omega] at this
    · obtain rfl : n = 16777216 := by omega
      have := magUnits_binade (s := s + 1) (f := 0) (by omega)
      rw [show (s + 1 + 1) * 8388608 + 0 = s * 8388608 + 16777216 by omega] at this
      rw [this, pow_succ]
      omega

/-- At a scale of `2 ^ s` every value is on the grid, or below its least significand of 24 bits. -/
theorem magUnits_grid_or_small (s k : Nat) :
    (∃ j, magUnits k = j * 2 ^ s) ∨ (1 ≤ s ∧ magUnits k < 8388608 * 2 ^ s) := by
  rcases magnitude_cases k with h | ⟨e, f, hf, rfl⟩
  · rw [magUnits_subnormal h]
    rcases Nat.eq_zero_or_pos s with rfl | hs
    · exact .inl ⟨k, by simp⟩
    · exact .inr ⟨hs, h.trans_le (Nat.le_mul_of_pos_right _ (Nat.two_pow_pos s))⟩
  · rw [magUnits_binade hf]
    by_cases hes : s ≤ e
    · refine .inl ⟨(8388608 + f) * 2 ^ (e - s), ?_⟩
      rw [Nat.mul_assoc, ← pow_add, Nat.sub_add_cancel hes]
    · refine .inr ⟨by omega, ?_⟩
      calc (8388608 + f) * 2 ^ e < 16777216 * 2 ^ e := Nat.mul_lt_mul_of_pos_right (by omega) (Nat.two_pow_pos e)
        _ = 8388608 * 2 ^ (e + 1) := by rw [pow_succ]; omega
        _ ≤ 8388608 * 2 ^ s := Nat.mul_le_mul_left _ (Nat.pow_le_pow_right (by omega) (by omega))

theorem magUnits_strictMono : StrictMono magUnits := by
  refine strictMono_nat_of_lt_succ fun k => ?_
  rcases magnitude_cases k with h | ⟨e, f, hf, rfl⟩
  · rw [magUnits_subnormal h]
    have := magUnits_significand (s := 0) (n := k + 1) (.inl rfl) (by omega)
    simp only [Nat.zero_mul, Nat.zero_add, pow_zero, Nat.mul_one] at this
    omega
  · have next := magUnits_significand (s := e) (n := 8388608 + f + 1) (.inr (by omega)) (by omega)
    rw [show e * 8388608 + (8388608 + f + 1) = (e + 1) * 8388608 + f + 1 by omega] at next
    rw [magUnits_binade hf, next]
    exact Nat.mul_lt_mul_of_pos_right (by omega) (Nat.two_pow_pos e)

theorem fVal_eq (x : F32) : fVal x = (if fNeg? x then -1 else 1) * (magUnits (fMag x) : ℚ) / 2 ^ 149 := by
  unfold fVal signedScaled
  rw [scaled_eq_magUnits]
  cases fNeg? x <;> simp

/-! ## Rounding to an integer -/

/-- The nearest integer errs by half at most, and by half only where it is even. -/
theorem nearestEven_near {num d : Nat} (hd : 0 < d) :
    |(nearestEven num d : ℚ) - num / d| ≤ 1 / 2 ∧
    (|(nearestEven num d : ℚ) - num / d| = 1 / 2 → nearestEven num d % 2 = 0) := by
  have hd' : (0 : ℚ) < d := by exact_mod_cast hd
  have split : (num : ℚ) / d = (num / d : Nat) + (num % d : Nat) / d := by
    rw [div_eq_iff hd'.ne', add_mul, div_mul_cancel₀ _ hd'.ne', mul_comm]
    exact_mod_cast (Nat.div_add_mod num d).symm
  have frac_lt : ((num % d : Nat) : ℚ) / d < 1 := (div_lt_one hd').mpr (by exact_mod_cast Nat.mod_lt num hd)
  have frac_nonneg : (0 : ℚ) ≤ ((num % d : Nat) : ℚ) / d := by positivity
  have half_lt : (1 / 2 : ℚ) < (num % d : Nat) / d ↔ d < 2 * (num % d) := by
    rw [lt_div_iff₀ hd', div_mul_eq_mul_div, one_mul, div_lt_iff₀ two_pos, mul_comm]
    exact_mod_cast Iff.rfl
  have half_eq : ((num % d : Nat) : ℚ) / d = 1 / 2 ↔ 2 * (num % d) = d := by
    rw [div_eq_div_iff hd'.ne' two_ne_zero, one_mul, mul_comm]
    exact_mod_cast Iff.rfl
  rw [split]
  unfold nearestEven
  split_ifs with h
  · have up : (1 / 2 : ℚ) ≤ (num % d : Nat) / d := by
      rcases h with h | ⟨h, -⟩
      · exact (half_lt.mpr h).le
      · exact (half_eq.mpr h).ge
    rw [Nat.cast_succ, abs_of_nonneg (by linarith)]
    refine ⟨by linarith, fun tie => ?_⟩
    have := half_eq.mp (by linarith)
    omega
  · have down : ((num % d : Nat) : ℚ) / d ≤ 1 / 2 := not_lt.mp fun hlt => h (.inl (half_lt.mp hlt))
    rw [abs_of_nonpos (by linarith)]
    refine ⟨by linarith, fun tie => ?_⟩
    have := half_eq.mp (by linarith)
    omega

theorem nearestEven_bounds (num d : Nat) : num / d ≤ nearestEven num d ∧ nearestEven num d ≤ num / d + 1 := by
  unfold nearestEven
  split <;> omega

/-- An integer within half of `y`, even where exactly half away, is the nearest integer to `y`, ties to even. -/
theorem nearest_int {y : ℚ} {n : Nat} (hn : |(n : ℚ) - y| ≤ 1 / 2) (heven : |(n : ℚ) - y| = 1 / 2 → n % 2 = 0) (j : Nat) :
    |(n : ℚ) - y| ≤ |(j : ℚ) - y| ∧ (j ≠ n → |(j : ℚ) - y| = |(n : ℚ) - y| → n % 2 = 0) := by
  by_cases hj : j = n
  · subst hj
    exact ⟨le_rfl, fun h => absurd rfl h⟩
  · have gap : (1 : ℚ) ≤ |(j : ℚ) - n| := by
      have : (1 : ℤ) ≤ |(j : ℤ) - n| := Int.one_le_abs (by omega)
      exact_mod_cast this
    have tri : |(j : ℚ) - n| ≤ |(j : ℚ) - y| + |(n : ℚ) - y| := by
      rw [abs_sub_comm (n : ℚ) y]
      exact abs_sub_le _ _ _
    exact ⟨by linarith, fun _ tie => heven (by linarith)⟩

/-! ## Rounding to 24 bits -/

theorem roundShift_cases (q : Nat) :
    (roundShift q = 0 ∧ q < 16777216) ∨
    (1 ≤ roundShift q ∧ 8388608 * 2 ^ roundShift q ≤ q ∧ q < 16777216 * 2 ^ roundShift q) := by
  unfold roundShift
  split
  · exact .inl ⟨rfl, ‹_›⟩
  · have hq : q ≠ 0 := by omega
    have hlog : 24 ≤ Nat.log2 q := (Nat.le_log2 hq).mpr (by omega)
    refine .inr ⟨by omega, ?_, ?_⟩
    · calc 8388608 * 2 ^ (Nat.log2 q - 23) = 2 ^ (23 + (Nat.log2 q - 23)) := by rw [pow_add]; rfl
        _ = 2 ^ Nat.log2 q := by congr 1; omega
        _ ≤ q := Nat.log2_self_le hq
    · calc q < 2 ^ (Nat.log2 q + 1) := Nat.lt_log2_self
        _ = 2 ^ (24 + (Nat.log2 q - 23)) := by congr 1; omega
        _ = 16777216 * 2 ^ (Nat.log2 q - 23) := by rw [pow_add]; rfl

/-- The significand of the rounded quotient `num / den`. -/
def roundSig (num den : Nat) : Nat := nearestEven num (den * 2 ^ roundShift (num / den))

/-- The magnitude of the rounded quotient, before an overflow is cut to the infinity. -/
def roundMag (num den : Nat) : Nat := roundShift (num / den) * 8388608 + roundSig num den

theorem roundQuot_eq (neg : Bool) (num den : Nat) : roundQuot neg num den = packMag neg (roundMag num den) := rfl

theorem roundSig_bounds (num den : Nat) :
    (roundShift (num / den) = 0 ∨ 8388608 ≤ roundSig num den) ∧ roundSig num den ≤ 16777216 := by
  obtain ⟨lower, upper⟩ := nearestEven_bounds num (den * 2 ^ roundShift (num / den))
  rw [← Nat.div_div_eq_div_mul] at lower upper
  unfold roundSig
  rcases roundShift_cases (num / den) with ⟨h0, hq⟩ | ⟨-, hlow, hhigh⟩
  · rw [h0] at upper ⊢
    simp only [pow_zero, Nat.div_one, Nat.mul_one] at upper ⊢
    exact ⟨.inl trivial, by omega⟩
  · have h1 := (Nat.le_div_iff_mul_le (Nat.two_pow_pos _)).mpr hlow
    have h2 := (Nat.div_lt_iff_lt_mul (Nat.two_pow_pos _)).mpr hhigh
    exact ⟨.inr (h1.trans lower), by omega⟩

theorem magUnits_roundMag (num den : Nat) :
    magUnits (roundMag num den) = roundSig num den * 2 ^ roundShift (num / den) := by
  obtain ⟨hs, hn⟩ := roundSig_bounds num den
  exact magUnits_significand hs hn


section
variable {num den : Nat}

/-- At the scale of the rounding the significand is within half a unit of the quotient, and even where exactly half. -/
theorem roundSig_near (hden : 0 < den) :
    |(roundSig num den : ℚ) - num / den / 2 ^ roundShift (num / den)| ≤ 1 / 2 ∧
    (|(roundSig num den : ℚ) - num / den / 2 ^ roundShift (num / den)| = 1 / 2 → roundSig num den % 2 = 0) := by
  have := nearestEven_near (num := num) (d := den * 2 ^ roundShift (num / den))
    (Nat.mul_pos hden (Nat.two_pow_pos _))
  rwa [Nat.cast_mul, Nat.cast_pow, Nat.cast_two, ← div_div] at this

theorem even_roundMag : roundMag num den % 2 = 0 ↔ roundSig num den % 2 = 0 := by
  unfold roundMag
  omega

/-- A quotient that is cut at `2 ^ s` has a significand of 24 bits. -/
theorem significand_le (hden : 0 < den) (hs : 1 ≤ roundShift (num / den)) :
    (8388608 : ℚ) ≤ num / den / 2 ^ roundShift (num / den) := by
  rcases roundShift_cases (num / den) with ⟨h0, -⟩ | ⟨-, hlow, -⟩
  · omega
  · rw [Nat.le_div_iff_mul_le hden] at hlow
    rw [le_div_iff₀ (by positivity), le_div_iff₀ (by exact_mod_cast hden)]
    exact_mod_cast hlow

/-- The rounded magnitude is the nearest of all, ties to even: on its grid by rounding to an integer, and every value off
the grid lies below the least one of 24 bits, which is on it. -/
theorem roundMag_nearest (hden : 0 < den) (k : Nat) :
    |(magUnits (roundMag num den) : ℚ) - num / den| ≤ |(magUnits k : ℚ) - num / den| ∧
    (magUnits k ≠ magUnits (roundMag num den) →
      |(magUnits k : ℚ) - num / den| = |(magUnits (roundMag num den) : ℚ) - num / den| →
      roundMag num den % 2 = 0) := by
  obtain ⟨near, even⟩ := roundSig_near (num := num) hden
  have sig_le := significand_le (num := num) hden
  rw [even_roundMag, magUnits_roundMag]
  have hgrid := magUnits_grid_or_small (roundShift (num / den)) k
  generalize roundShift (num / den) = s at *
  generalize roundSig num den = n at *
  generalize magUnits k = v at *
  have hpow : (0 : ℚ) < 2 ^ s := by positivity
  have scale (w : ℚ) : |w * 2 ^ s - num / den| = |w - num / den / 2 ^ s| * 2 ^ s := by
    rw [← abs_of_pos hpow, ← abs_mul, abs_of_pos hpow, sub_mul, div_mul_cancel₀ _ hpow.ne']
  push_cast
  rw [scale n]
  rcases hgrid with ⟨j, rfl⟩ | ⟨hs, hv⟩
  · obtain ⟨le, tie⟩ := nearest_int near even j
    push_cast
    rw [scale j]
    refine ⟨mul_le_mul_of_nonneg_right le hpow.le, fun hne heq => ?_⟩
    exact tie (fun h => hne (by rw [h])) (mul_right_cancel₀ hpow.ne' heq)
  · have le := (nearest_int near even 8388608).1
    have hy := sig_le hs
    have hv' : (v : ℚ) < 8388608 * 2 ^ s := by exact_mod_cast hv
    have off : |((8388608 : Nat) : ℚ) - num / den / 2 ^ s| * 2 ^ s < |(v : ℚ) - num / den| := by
      have ha : num / den / 2 ^ s * 2 ^ s = (num / den : ℚ) := div_mul_cancel₀ _ hpow.ne'
      have hmul := mul_le_mul_of_nonneg_right hy hpow.le
      rw [abs_sub_comm, abs_of_nonneg (by push_cast; linarith), sub_mul, ha, abs_sub_comm (v : ℚ),
        abs_of_nonneg (by linarith)]
      push_cast
      linarith
    have lt := (mul_le_mul_of_nonneg_right le hpow.le).trans_lt off
    exact ⟨lt.le, fun _ heq => absurd heq lt.ne'⟩

/-- The same against the values of both signs: a negative one is no nearer than zero. -/
theorem roundMag_nearest_signed (hden : 0 < den) {u : ℚ} {k : Nat} (hu : u = magUnits k ∨ u = -magUnits k) :
    |(magUnits (roundMag num den) : ℚ) - num / den| ≤ |u - num / den| ∧
    (u ≠ magUnits (roundMag num den) → |u - num / den| = |(magUnits (roundMag num den) : ℚ) - num / den| →
      roundMag num den % 2 = 0) := by
  rcases hu with rfl | rfl
  · obtain ⟨le, tie⟩ := roundMag_nearest (num := num) hden k
    exact ⟨le, fun hne => tie (by exact_mod_cast hne)⟩
  · obtain ⟨le, tie⟩ := roundMag_nearest (num := num) hden 0
    have ha : (0 : ℚ) ≤ num / den := by positivity
    have hk : (0 : ℚ) ≤ magUnits k := by positivity
    have zero : magUnits 0 = 0 := by decide
    have zero_dist : |(magUnits 0 : ℚ) - num / den| = num / den := by
      rw [zero, Nat.cast_zero, zero_sub, abs_neg, abs_of_nonneg ha]
    have neg_dist : |-(magUnits k : ℚ) - num / den| = magUnits k + num / den := by
      rw [← neg_add', abs_neg, abs_of_nonneg (by linarith)]
    rw [zero_dist] at le tie
    rw [neg_dist]
    refine ⟨by linarith, fun hne heq => tie (fun h => hne ?_) (by linarith)⟩
    have hk0 : (magUnits k : ℚ) = 0 := by linarith
    rw [hk0, ← h, zero]
    simp

/-- Half a unit above the largest finite value, in units of 2^-149: from here on the result overflows. -/
def overflowUnits : Nat := 33554431 * 2 ^ 252

/-- A finite result is one whose exact value lies below the bound: the significand of the last binade stays below
2^24. -/
theorem roundMag_lt_infMag_iff (hden : 0 < den) : roundMag num den < infMag ↔ (num : ℚ) / den < overflowUnits := by
  obtain ⟨near, even⟩ := roundSig_near (num := num) hden
  obtain ⟨sig_ge, sig_le⟩ := roundSig_bounds num den
  have hP : (0 : ℚ) < 2 ^ 252 := by positivity
  have quotient_lt : num / den < 16777216 * 2 ^ roundShift (num / den) := by
    rcases roundShift_cases (num / den) with ⟨h0, hq⟩ | ⟨-, -, hhigh⟩
    · simpa [h0] using hq
    · exact hhigh
  have upper : (num : ℚ) / den < 16777216 * 2 ^ roundShift (num / den) := by
    rw [Nat.div_lt_iff_lt_mul hden] at quotient_lt
    rw [div_lt_iff₀ (by exact_mod_cast hden)]
    exact_mod_cast quotient_lt
  have lower := significand_le (num := num) hden
  have bound : (overflowUnits : ℚ) = 33554431 * 2 ^ 252 := by norm_num [overflowUnits]
  rw [bound]
  unfold roundMag infMag
  generalize roundShift (num / den) = s at *
  generalize roundSig num den = n at *
  generalize (num : ℚ) / den = a at *
  rcases lt_trichotomy s 253 with hs | rfl | hs
  · have hpow : (2 : ℚ) ^ s ≤ 2 ^ 252 := pow_le_pow_right₀ one_le_two (by omega)
    exact iff_of_true (by omega) (by linarith)
  · have hpow : (2 : ℚ) ^ 253 = 2 * 2 ^ 252 := pow_succ' 2 252
    have ha : a = a / 2 ^ 253 * (2 * 2 ^ 252) := by rw [← hpow, div_mul_cancel₀ _ (by positivity)]
    generalize a / 2 ^ 253 = y at *
    have hy : a < 33554431 * 2 ^ 252 ↔ y < 33554431 / 2 := by
      rw [ha, ← mul_assoc, mul_lt_mul_iff_left₀ hP, lt_div_iff₀ two_pos]
    rw [hy]
    obtain ⟨near_low, near_high⟩ := abs_le.mp near
    constructor
    · intro h
      have hn : (n : ℚ) ≤ 16777215 := by exact_mod_cast (by omega : n ≤ 16777215)
      by_contra hge
      have tie : |(n : ℚ) - y| = 1 / 2 := by rw [abs_of_nonpos (by linarith)]; linarith
      have hodd : (n : ℚ) = 16777215 := by linarith
      have : n = 16777215 := by exact_mod_cast hodd
      have := even tie
      omega
    · intro h
      have hn : (n : ℚ) < 16777216 := by linarith
      have : n < 16777216 := by exact_mod_cast hn
      omega
  · have hpow : (2 : ℚ) ^ 254 ≤ 2 ^ s := pow_le_pow_right₀ one_le_two hs
    have hpow' : (2 : ℚ) ^ 254 = 4 * 2 ^ 252 := by rw [show 254 = 2 + 252 by rfl, pow_add]; norm_num
    have low := lower (by omega)
    rw [le_div_iff₀ (by positivity)] at low
    exact iff_of_false (by omega) (by linarith)

/-- A rounded quotient is the nearest binary32 value to the quotient, ties to even (spec/00_scope.md R18). -/
theorem rounded_roundQuot (neg : Bool) (hden : 0 < den) :
    Rounded ((if neg then -1 else 1) * ((num : ℚ) / den) / 2 ^ 149) (roundQuot neg num den) := by
  have hU : (0 : ℚ) < 2 ^ 149 := by positivity
  have ha : (0 : ℚ) ≤ num / den := by positivity
  set σ : ℚ := if neg then -1 else 1 with hσ
  have abs_sign : |σ| = 1 := by rw [hσ]; cases neg <;> simp
  have sign_sq : σ * σ = 1 := by rw [hσ]; cases neg <;> simp
  have dist (v : ℚ) : |σ * v / 2 ^ 149 - σ * (num / den) / 2 ^ 149| = |v - num / den| / 2 ^ 149 := by
    rw [← sub_div, ← mul_sub, abs_div, abs_mul, abs_sign, one_mul, abs_of_pos hU]
  have abs_e : |σ * ((num : ℚ) / den) / 2 ^ 149| = (num : ℚ) / den / 2 ^ 149 := by
    rw [abs_div, abs_mul, abs_sign, one_mul, abs_of_nonneg ha, abs_of_pos hU]
  have threshold : (num : ℚ) / den / 2 ^ 149 < 2 ^ 128 - 2 ^ 103 ↔ roundMag num den < infMag := by
    rw [roundMag_lt_infMag_iff hden, div_lt_iff₀ hU]
    norm_num [overflowUnits]
  have mag_eq : fMag (roundQuot neg num den) = min (roundMag num den) infMag := by
    rw [roundQuot_eq, fMag_packMag]
  unfold Rounded
  rw [abs_e]
  split
  next h =>
    have finite := threshold.mp h
    rw [min_eq_left finite.le] at mag_eq
    have value : fVal (roundQuot neg num den) = σ * magUnits (roundMag num den) / 2 ^ 149 := by
      rw [fVal_eq, fNeg_roundQuot, mag_eq]
    have other (z : F32) : ∃ u : ℚ, fVal z = σ * u / 2 ^ 149 ∧ (u = magUnits (fMag z) ∨ u = -magUnits (fMag z)) := by
      refine ⟨σ * ((if fNeg? z then -1 else 1) * magUnits (fMag z)), by rw [← mul_assoc, sign_sq, one_mul, fVal_eq], ?_⟩
      rw [hσ]
      cases neg <;> cases fNeg? z <;> simp
    refine ⟨by rwa [fFinite, mag_eq], fun z _ => ?_, fun z _ hne heq => ?_⟩
    · obtain ⟨u, hz, hu⟩ := other z
      rw [value, hz, dist, dist]
      exact div_le_div_of_nonneg_right (roundMag_nearest_signed hden hu).1 hU.le
    · obtain ⟨u, hz, hu⟩ := other z
      rw [hz, value] at hne
      rw [value, hz, dist, dist, div_left_inj' hU.ne'] at heq
      rw [mag_eq]
      exact (roundMag_nearest_signed hden hu).2 (fun h => hne (by rw [h])) heq
  next h =>
    have overflow := mt threshold.mpr h
    refine ⟨by rw [mag_eq, min_eq_right (not_lt.mp overflow)], ?_⟩
    have pos : (0 : ℚ) < num / den := by
      refine ha.lt_of_ne fun h0 => h ?_
      rw [← h0]
      norm_num
    rw [fNeg_roundQuot, hσ]
    cases neg
    · simp only [Bool.false_eq_true, if_false, one_mul, false_iff, not_lt]
      positivity
    · simp only [if_true, true_iff, neg_mul, one_mul, neg_div, Left.neg_neg_iff]
      positivity

end

/-! ## The four operations -/

/-- A zero of either sign is the rounded quotient of zero. -/
theorem packMag_zero (neg : Bool) : packMag neg 0 = roundQuot neg 0 1 := by cases neg <;> decide

section
variable {x y : F32}

theorem not_inf_of_finite (hx : fFinite x) : isInf x = false := by
  simp only [isInf, beq_eq_false_iff_ne]
  exact hx.ne

theorem fadd_finite (hx : fFinite x) (hy : fFinite y) :
    fadd x y = if signedScaled x + signedScaled y = 0 then packMag (fNeg? x && fNeg? y) 0
      else roundQuot (decide (signedScaled x + signedScaled y < 0)) (signedScaled x + signedScaled y).natAbs 1 := by
  simp [fadd, not_nan_of_finite hx, not_nan_of_finite hy, not_inf_of_finite hx, not_inf_of_finite hy]

theorem fmul_finite (hx : fFinite x) (hy : fFinite y) :
    fmul x y = roundQuot (fNeg? x != fNeg? y) (scaled x * scaled y) unitScale := by
  simp [fmul, not_nan_of_finite hx, not_nan_of_finite hy, not_inf_of_finite hx, not_inf_of_finite hy]

theorem fdiv_finite (hx : fFinite x) (hy : fFinite y) (h0 : fMag y ≠ 0) :
    fdiv x y = roundQuot (fNeg? x != fNeg? y) (scaled x * unitScale) (scaled y) := by
  simp [fdiv, not_nan_of_finite hx, not_nan_of_finite hy, not_inf_of_finite hx, not_inf_of_finite hy, h0]

theorem fFinite_fneg (hx : fFinite x) : fFinite (fneg x) := by
  rwa [fFinite, fMag_fneg (not_nan_of_finite hx)]

theorem fVal_fneg (hx : isNaN x = false) : fVal (fneg x) = -fVal x := by
  simp [fVal, signedScaled_fneg hx, neg_div]

/-- The exact sum, as a count of units. -/
theorem fVal_add (x y : F32) : fVal x + fVal y = ((signedScaled x + signedScaled y : ℤ) : ℚ) / 2 ^ 149 := by
  rw [fVal, fVal, ← add_div]
  push_cast
  rfl

/-- The sign of a product or quotient is that of the operands' signs. -/
theorem sign_differ (x y : F32) :
    (if fNeg? x != fNeg? y then (-1 : ℚ) else 1) = (if fNeg? x then -1 else 1) * (if fNeg? y then -1 else 1) := by
  cases fNeg? x <;> cases fNeg? y <;> simp

theorem rounded_fadd (hx : fFinite x) (hy : fFinite y) : Rounded (fVal x + fVal y) (fadd x y) := by
  rw [fadd_finite hx hy, fVal_add]
  generalize signedScaled x + signedScaled y = n
  split
  next h =>
    have := rounded_roundQuot (num := 0) (fNeg? x && fNeg? y) Nat.one_pos
    rw [packMag_zero, h]
    simpa using this
  next =>
    have := rounded_roundQuot (num := n.natAbs) (decide (n < 0)) Nat.one_pos
    have sum : (if decide (n < 0) then (-1 : ℚ) else 1) * ((n.natAbs : ℚ) / (1 : Nat)) = n := by
      rw [Nat.cast_one, div_one, Nat.cast_natAbs]
      by_cases hn : n < 0
      · simp [hn, abs_of_neg hn]
      · simp [hn, abs_of_nonneg (not_lt.mp hn)]
    rwa [sum] at this

theorem rounded_fsub (hx : fFinite x) (hy : fFinite y) : Rounded (fVal x - fVal y) (fsub x y) := by
  rw [sub_eq_add_neg, ← fVal_fneg (not_nan_of_finite hy)]
  exact rounded_fadd hx (fFinite_fneg hy)

theorem rounded_fmul (hx : fFinite x) (hy : fFinite y) : Rounded (fVal x * fVal y) (fmul x y) := by
  have := rounded_roundQuot (num := scaled x * scaled y) (den := unitScale) (fNeg? x != fNeg? y) (Nat.two_pow_pos 149)
  rw [sign_differ] at this
  rw [fmul_finite hx hy, fVal_eq, fVal_eq]
  convert this using 1
  rw [scaled_eq_magUnits, scaled_eq_magUnits, unitScale]
  push_cast
  ring

theorem rounded_fdiv (hx : fFinite x) (hy : fFinite y) (h0 : fVal y ≠ 0) : Rounded (fVal x / fVal y) (fdiv x y) := by
  have hmag : fMag y ≠ 0 := fun h => h0 (fVal_eq_zero.mpr h)
  have hpos : 0 < scaled y := Nat.pos_of_ne_zero fun h => hmag (scaled_eq_zero.mp h)
  have := rounded_roundQuot (num := scaled x * unitScale) (fNeg? x != fNeg? y) hpos
  rw [sign_differ] at this
  rw [fdiv_finite hx hy hmag, fVal_eq, fVal_eq]
  convert this using 1
  have hY : (magUnits (fMag y) : ℚ) ≠ 0 := by exact_mod_cast hpos.ne'
  rw [scaled_eq_magUnits, scaled_eq_magUnits, unitScale, Nat.cast_mul, Nat.cast_pow, Nat.cast_two]
  cases fNeg? y
  · simp only [Bool.false_eq_true, if_false]
    field_simp
  · simp only [if_true]
    field_simp

end

/-- Settles O58: each operation is one rounded quotient of the exact result in units of 2^-149. -/
theorem arithmeticIsCorrectlyRounded : Obligations.ArithmeticIsCorrectlyRounded := fun _ _ hx hy =>
  ⟨rounded_fadd hx hy, rounded_fsub hx hy, rounded_fmul hx hy, rounded_fdiv hx hy⟩

end Sys2Proof.Machine

/-! Infinities, zeros, NaN and the comparisons (spec/00_scope.md R18 to R20), from what each operation answers for the
kinds of its operands. -/

namespace Sys2Proof.Machine

/-! ## Words by sign and magnitude -/

/-- The sign and the magnitude are the word. -/
theorem eq_of_sign_mag {x y : F32} (hneg : fNeg? x = fNeg? y) (hmag : fMag x = fMag y) : x = y := by
  apply BitVec.eq_of_toNat_eq
  simp only [fNeg?, BitVec.msb_eq_decide, decide_eq_decide] at hneg
  simp only [fMag] at hmag
  have := x.isLt
  have := y.isLt
  omega

theorem packMag_infMag (neg : Bool) : packMag neg infMag = if neg then 0xFF800000#32 else 0x7F800000#32 := by
  cases neg <;> decide

theorem packMag_zero_eq (neg : Bool) : packMag neg 0 = if neg then 0x80000000#32 else 0x00000000#32 := by
  cases neg <;> decide

section
variable {x y : F32}

theorem fMag_of_inf (h : isInf x = true) : fMag x = infMag := by simpa [isInf] using h

theorem fMag_ne_zero_of_inf (h : isInf x = true) : fMag x ≠ 0 := by rw [fMag_of_inf h]; decide

theorem isInf_fneg_of_inf (h : isInf x = true) : isInf (fneg x) = true := by rw [isInf_fneg (not_nan_of_inf h), h]

theorem isNaN_fneg_of_nan (h : isNaN x = true) : isNaN (fneg x) = true := by simp [fneg, h]

/-! ## Infinite operands -/

theorem fadd_inf_finite (hx : isInf x = true) (hy : fFinite y) : fadd x y = x := by
  simp [fadd, hx, not_nan_of_inf hx, not_nan_of_finite hy, not_inf_of_finite hy]

theorem fadd_finite_inf (hx : isInf x = true) (hy : fFinite y) : fadd y x = x := by
  simp [fadd, hx, not_nan_of_inf hx, not_nan_of_finite hy, not_inf_of_finite hy]

/-- Two infinities have a sum where their signs agree. -/
theorem fadd_inf_inf (hx : isInf x = true) (hy : isInf y = true) :
    fadd x y = if fNeg? x != fNeg? y then fNaN else x := by
  simp [fadd, hx, hy, not_nan_of_inf hx, not_nan_of_inf hy]

theorem fsub_inf_inf (hx : isInf x = true) (hy : isInf y = true) :
    fsub x y = if fNeg? x != fNeg? y then x else fNaN := by
  rw [fsub, fadd_inf_inf hx (isInf_fneg_of_inf hy), fNeg_fneg (not_nan_of_inf hy)]
  cases fNeg? x <;> cases fNeg? y <;> rfl

theorem fmul_inf (hx : isNaN x = false) (hy : isNaN y = false) (hinf : isInf x = true ∨ isInf y = true)
    (hx0 : fMag x ≠ 0) (hy0 : fMag y ≠ 0) : fmul x y = packMag (fNeg? x != fNeg? y) infMag := by
  rcases hinf with h | h <;> simp [fmul, hx, hy, h, hx0, hy0]

theorem fmul_inf_zero (hx : fMag x = 0) (hy : isInf y = true) : fmul x y = fNaN ∧ fmul y x = fNaN := by
  have hfin : fFinite x := by rw [fFinite, hx]; decide
  simp [fmul, hx, hy, not_nan_of_finite hfin, not_nan_of_inf hy]

theorem fdiv_inf_finite (hx : isInf x = true) (hy : fFinite y) :
    fdiv x y = packMag (fNeg? x != fNeg? y) infMag := by
  simp [fdiv, hx, not_nan_of_inf hx, not_nan_of_finite hy, not_inf_of_finite hy]

theorem fdiv_finite_inf (hx : isInf x = true) (hy : fFinite y) : fdiv y x = packMag (fNeg? x != fNeg? y) 0 := by
  rw [bne_comm]
  simp [fdiv, hx, not_nan_of_inf hx, not_nan_of_finite hy, not_inf_of_finite hy]

theorem fdiv_inf_inf (hx : isInf x = true) (hy : isInf y = true) : fdiv x y = fNaN := by
  simp [fdiv, hx, hy, not_nan_of_inf hx, not_nan_of_inf hy]

/-! ## Zero operands and results -/

theorem fdiv_zero (hx : fFinite x) (hy : fFinite y) (hy0 : fMag y = 0) :
    fdiv x y = if fMag x = 0 then fNaN else packMag (fNeg? x != fNeg? y) infMag := by
  simp [fdiv, not_nan_of_finite hx, not_nan_of_finite hy, not_inf_of_finite hx, not_inf_of_finite hy, hy0]

theorem fadd_eq_zero (hx : fFinite x) (hy : fFinite y) (h : fVal x + fVal y = 0) :
    fadd x y = if fNeg? x = true ∧ fNeg? y = true then 0x80000000#32 else 0x00000000#32 := by
  have hsum : signedScaled x + signedScaled y = 0 := by
    rw [fVal_add, div_eq_zero_iff] at h
    simpa only [Int.cast_eq_zero, pow_eq_zero_iff (n := 149) (by decide), OfNat.ofNat_ne_zero, or_false] using h
  rw [fadd_finite hx hy, if_pos hsum, packMag_zero_eq]
  simp only [Bool.and_eq_true]

end

/-- Settles O59: each clause is what the operation answers for operands of that kind, with the sign of the packed word. -/
theorem infinitiesAndZeros : Obligations.InfinitiesAndZeros := by
  intro x y differ infinity zero
  refine ⟨fun hx hy => ?_, fun hx hy => ?_, fun hx hy => ?_⟩
  · have hxn := not_nan_of_inf hx
    have hyn := not_nan_of_finite hy
    refine ⟨fadd_inf_finite hx hy, fadd_finite_inf hx hy, fadd_inf_finite hx (fFinite_fneg hy),
      fadd_finite_inf (isInf_fneg_of_inf hx) hy, ?_, ?_, fun hy0 => ?_⟩
    · rw [fdiv_inf_finite hx hy, packMag_infMag]
    · rw [fdiv_finite_inf hx hy, packMag_zero_eq]
    · have hx0 := fMag_ne_zero_of_inf hx
      have hy0 : fMag y ≠ 0 := mt fVal_eq_zero.mpr hy0
      rw [fmul_inf hxn hyn (.inl hx) hx0 hy0, fmul_inf hyn hxn (.inr hx) hy0 hx0, bne_comm (a := fNeg? y),
        packMag_infMag]
      exact ⟨rfl, rfl⟩
  · refine ⟨?_, fun h => ?_, fun h => ?_⟩
    · rw [fmul_inf (not_nan_of_inf hx) (not_nan_of_inf hy) (.inl hx) (fMag_ne_zero_of_inf hx) (fMag_ne_zero_of_inf hy),
        packMag_infMag]
    · rw [fadd_inf_inf hx hy]
      exact if_neg (by rw [show (fNeg? x != fNeg? y) = false from h]; decide)
    · rw [fsub_inf_inf hx hy]
      exact if_pos h
  · refine ⟨fun hx0 hy0 => ?_, fadd_eq_zero hx hy, fun h => ?_, ?_, fun hy0 => ?_⟩
    · rw [fdiv_zero hx hy (fVal_eq_zero.mp hy0), if_neg (mt fVal_eq_zero.mpr hx0), packMag_infMag]
    · have hyn := not_nan_of_finite hy
      rw [fsub, fadd_eq_zero hx (fFinite_fneg hy) (by rw [fVal_fneg hyn, ← sub_eq_add_neg, h]), fNeg_fneg hyn]
      simp only [Bool.not_eq_true']
    · rw [fmul_finite hx hy, fNeg_roundQuot]
    · rw [fdiv_finite hx hy (mt fVal_eq_zero.mpr hy0), fNeg_roundQuot]

/-! ## Comparisons -/

section
variable {x y : F32}

/-- The key orders the finite values as their counts of units do. -/
theorem fKey_lt_iff : fKey x < fKey y ↔ signedScaled x < signedScaled y := by
  unfold fKey signedScaled
  rw [scaled_eq_magUnits, scaled_eq_magUnits]
  have lt := magUnits_strictMono.lt_iff_lt (a := fMag x) (b := fMag y)
  have gt := magUnits_strictMono.lt_iff_lt (a := fMag y) (b := fMag x)
  have x_pos := magUnits_strictMono.lt_iff_lt (a := 0) (b := fMag x)
  have y_pos := magUnits_strictMono.lt_iff_lt (a := 0) (b := fMag y)
  rw [show magUnits 0 = 0 by decide] at x_pos y_pos
  cases fNeg? x <;> cases fNeg? y <;> simp only [Bool.false_eq_true, if_true, if_false] <;> omega

theorem fKey_lt_iff_fVal : fKey x < fKey y ↔ fVal x < fVal y := by
  rw [fKey_lt_iff, fVal, fVal, div_lt_div_iff_of_pos_right (by positivity)]
  exact Int.cast_lt.symm

theorem flt_of_not_nan (hx : isNaN x = false) (hy : isNaN y = false) : flt x y = true ↔ fKey x < fKey y := by
  simp [flt, hx, hy]

theorem fle_of_not_nan (hx : isNaN x = false) (hy : isNaN y = false) : fle x y = true ↔ fKey x ≤ fKey y := by
  simp [fle, hx, hy]

theorem feq_of_not_nan (hx : isNaN x = false) (hy : isNaN y = false) : feq x y = true ↔ fKey x = fKey y := by
  simp [feq, hx, hy]

/-- The key of a word that is no NaN lies between those of the infinities. -/
theorem fKey_bounds (hx : isNaN x = false) : -(infMag : ℤ) ≤ fKey x ∧ fKey x ≤ infMag := by
  have h : fMag x ≤ infMag := by simpa [isNaN] using hx
  unfold fKey
  split <;> omega

/-- But for the two zeros, words with the same key are the same. -/
theorem eq_of_fKey_eq (h : fKey x = fKey y) (hy : fMag y ≠ 0) : x = y := by
  unfold fKey at h
  refine eq_of_sign_mag ?_ ?_
  · cases hx : fNeg? x <;> cases hy : fNeg? y <;> simp only [hx, hy, Bool.false_eq_true, if_true, if_false] at h ⊢ <;>
      omega
  · split at h <;> split at h <;> omega

theorem fKey_eq_iff_of_inf (hy : isInf y = true) : fKey x = fKey y ↔ x = y :=
  ⟨fun h => eq_of_fKey_eq h (fMag_ne_zero_of_inf hy), fun h => by rw [h]⟩

end

/-- Negative infinity lies below every other word that is no NaN (spec/00_scope.md R19). -/
theorem compare_negInf {x : F32} (hx : isNaN x = false) :
    (flt 0xFF800000#32 x = true ↔ x ≠ 0xFF800000#32) ∧ flt x 0xFF800000#32 = false ∧ fle 0xFF800000#32 x = true ∧
    (fle x 0xFF800000#32 = true ↔ x = 0xFF800000#32) := by
  have hn : isNaN 0xFF800000#32 = false := by decide
  have key : fKey 0xFF800000#32 = -(infMag : ℤ) := by decide
  have eq_iff := fKey_eq_iff_of_inf (x := x) (y := 0xFF800000#32) (by decide)
  obtain ⟨lower, -⟩ := fKey_bounds hx
  rw [← Bool.not_eq_true, flt_of_not_nan hn hx, flt_of_not_nan hx hn, fle_of_not_nan hn hx, fle_of_not_nan hx hn,
    ne_eq, ← eq_iff, key]
  omega

/-- Positive infinity lies above every other word that is no NaN. -/
theorem compare_posInf {x : F32} (hx : isNaN x = false) :
    (flt x 0x7F800000#32 = true ↔ x ≠ 0x7F800000#32) ∧ flt 0x7F800000#32 x = false ∧ fle x 0x7F800000#32 = true ∧
    (fle 0x7F800000#32 x = true ↔ x = 0x7F800000#32) := by
  have hn : isNaN 0x7F800000#32 = false := by decide
  have key : fKey 0x7F800000#32 = (infMag : ℤ) := by decide
  have eq_iff := fKey_eq_iff_of_inf (x := x) (y := 0x7F800000#32) (by decide)
  obtain ⟨-, upper⟩ := fKey_bounds hx
  rw [← Bool.not_eq_true, flt_of_not_nan hn hx, flt_of_not_nan hx hn, fle_of_not_nan hn hx, fle_of_not_nan hx hn,
    ne_eq, ← eq_iff, key]
  omega

/-- An operation on a NaN answers the canonical NaN, and a comparison with one is false. -/
theorem operations_of_nan {x y : F32} (h : isNaN x = true ∨ isNaN y = true) :
    fadd x y = fNaN ∧ fsub x y = fNaN ∧ fmul x y = fNaN ∧ fdiv x y = fNaN ∧
    flt x y = false ∧ fle x y = false ∧ feq x y = false := by
  rcases h with h | h
  · simp [fsub, fadd, fmul, fdiv, flt, fle, feq, h]
  · simp [fsub, fadd, fmul, fdiv, flt, fle, feq, h, isNaN_fneg_of_nan h]

/-- Settles O60: the invalid operations by the kinds of their operands, the comparisons by the key that orders the words. -/
theorem naNsAndComparisons : Obligations.NaNsAndComparisons := by
  intro x y z
  refine ⟨operations_of_nan, fun hx hy => ?_, fun hx hx0 => ?_, fun hx hy => ?_, fun hx => ?_, fun hx => ?_⟩
  · refine ⟨fdiv_inf_inf hx hy, fun h => ?_, fun h => ?_⟩
    · rw [fadd_inf_inf hx hy, if_pos (bne_iff_ne.mpr h)]
      rfl
    · rw [fsub_inf_inf hx hy, if_neg (by simp [h])]
      rfl
  · have hx0 := fVal_eq_zero.mp hx0
    refine ⟨fmul_inf_zero hx0, fun hy hy0 => ?_⟩
    rw [fdiv_zero hx hy (fVal_eq_zero.mp hy0), if_pos hx0]
    rfl
  · have hxn := not_nan_of_finite hx
    have hyn := not_nan_of_finite hy
    have lt := fKey_lt_iff_fVal (x := x) (y := y)
    have gt := fKey_lt_iff_fVal (x := y) (y := x)
    rw [flt_of_not_nan hxn hyn, fle_of_not_nan hxn hyn, feq_of_not_nan hxn hyn]
    exact ⟨lt, le_iff_le_iff_lt_iff_lt.mpr gt, by rw [eq_iff_le_not_lt, eq_iff_le_not_lt, ← lt, ← not_lt, gt, not_lt]⟩
  · obtain ⟨lt_low, not_lt_low, le_low, low_le⟩ := compare_negInf hx
    obtain ⟨lt_high, not_lt_high, le_high, high_le⟩ := compare_posInf hx
    refine ⟨lt_low, not_lt_low, le_low, low_le, lt_high, not_lt_high, le_high, high_le, fun hy => ?_⟩
    have hyn := not_nan_of_inf hy
    rw [feq_of_not_nan hx hyn, feq_of_not_nan hyn hx, eq_comm (a := fKey y), fKey_eq_iff_of_inf hy]
    exact ⟨Iff.rfl, Iff.rfl⟩
  · simp [fclamp, flt, hx]

end Sys2Proof.Machine

/-! SUPPORT. The comparisons as an order of values, the range of a value by its kind, and the bounds that a rounded result
keeps: rounding does not carry a result past a finite value (spec/00_scope.md R18, R19). -/

namespace Sys2Proof.Machine

/-! ## Comparisons and values -/

section
variable {x y : F32}

theorem flt_iff_fVal : flt x y = true ↔ isNaN x = false ∧ isNaN y = false ∧ fVal x < fVal y := by
  rw [← fKey_lt_iff_fVal]
  simp [flt, and_assoc]

theorem fle_iff_fVal : fle x y = true ↔ isNaN x = false ∧ isNaN y = false ∧ fVal x ≤ fVal y := by
  rw [← not_lt, ← fKey_lt_iff_fVal, not_lt]
  simp [fle, and_assoc]

/-- Between values that are no NaN a comparison that fails holds the other way round. -/
theorem fVal_le_of_not_flt (hx : isNaN x = false) (hy : isNaN y = false) (h : ¬ flt x y = true) : fVal y ≤ fVal x :=
  not_lt.mp fun hlt => h (flt_iff_fVal.mpr ⟨hx, hy, hlt⟩)

theorem fVal_lt_of_not_fle (hx : isNaN x = false) (hy : isNaN y = false) (h : ¬ fle x y = true) : fVal y < fVal x :=
  not_le.mp fun hle => h (fle_iff_fVal.mpr ⟨hx, hy, hle⟩)

@[simp] theorem fVal_fZero : fVal fZero = 0 := fVal_eq_zero.mpr rfl

@[simp] theorem fVal_fOne : fVal fOne = 1 := by
  rw [fVal, show signedScaled fOne = 2 ^ 149 by decide]
  norm_num

@[simp] theorem fVal_fMinusOne : fVal fMinusOne = -1 := by
  rw [fVal, show signedScaled fMinusOne = -2 ^ 149 by decide]
  norm_num

@[simp] theorem isNaN_fZero : isNaN fZero = false := by decide
@[simp] theorem isNaN_fOne : isNaN fOne = false := by decide
@[simp] theorem isNaN_fMinusOne : isNaN fMinusOne = false := by decide

theorem inUnit_iff : inUnit x = true ↔ isNaN x = false ∧ 0 ≤ fVal x ∧ fVal x ≤ 1 := by
  simp only [inUnit, Bool.and_eq_true, fle_iff_fVal, isNaN_fZero, isNaN_fOne, fVal_fZero, fVal_fOne]
  tauto

theorem inUnitRange_iff : inUnitRange x = true ↔ isNaN x = false ∧ -1 ≤ fVal x ∧ fVal x ≤ 1 := by
  simp only [inUnitRange, Bool.and_eq_true, fle_iff_fVal, isNaN_fMinusOne, isNaN_fOne, fVal_fMinusOne, fVal_fOne]
  tauto

theorem rateLegal_iff : rateLegal x = true ↔ isNaN x = false ∧ 0 ≤ fVal x := by
  simp [rateLegal, fle_iff_fVal]

@[simp] theorem inUnit_fZero : inUnit fZero = true := by decide
@[simp] theorem inUnit_fOne : inUnit fOne = true := by decide

/-! ## The range of a value by its kind -/

theorem fVal_nonneg (h : fNeg? x = false) : 0 ≤ fVal x := by
  rw [fVal_eq, h, if_neg Bool.false_ne_true, one_mul]
  positivity

theorem fVal_nonpos (h : fNeg? x = true) : fVal x ≤ 0 := by
  rw [fVal_eq, h, if_pos rfl, neg_mul, one_mul, neg_div]
  exact neg_nonpos.mpr (by positivity)

theorem abs_fVal : |fVal x| = magUnits (fMag x) / 2 ^ 149 := by
  rw [fVal_eq]
  cases fNeg? x <;> simp [abs_div]

/-- An infinity stands one unit in the last place above the largest finite value. -/
theorem abs_fVal_of_inf (h : fMag x = infMag) : |fVal x| = 2 ^ 128 := by
  rw [abs_fVal, h, show magUnits infMag = 8388608 * 2 ^ 254 by decide]
  norm_num

theorem abs_fVal_of_finite (h : fFinite x) : |fVal x| < 2 ^ 128 - 2 ^ 103 := by
  have hle : magUnits (fMag x) ≤ magUnits (infMag - 1) := magUnits_strictMono.monotone (Nat.le_sub_one_of_lt h)
  rw [show magUnits (infMag - 1) = 16777215 * 2 ^ 253 by decide] at hle
  have hle' : (magUnits (fMag x) : ℚ) ≤ 16777215 * 2 ^ 253 := by exact_mod_cast hle
  rw [abs_fVal, div_lt_iff₀ (by positivity)]
  norm_num at hle' ⊢
  linarith

theorem finite_or_inf (h : isNaN x = false) : fFinite x ∨ fMag x = infMag :=
  lt_or_eq_of_le (by simpa [isNaN] using h)

theorem finite_of_abs_fVal_lt (h : isNaN x = false) (hlt : |fVal x| < 2 ^ 128) : fFinite x :=
  (finite_or_inf h).resolve_right fun hinf => hlt.ne (abs_fVal_of_inf hinf)

theorem fFinite_of_inUnit (h : inUnit x = true) : fFinite x := by
  obtain ⟨hn, h0, h1⟩ := inUnit_iff.mp h
  exact finite_of_abs_fVal_lt hn (by rw [abs_of_nonneg h0]; linarith)

end

/-! ## Bounds of rounded results -/

section
variable {e : ℚ} {r z : F32}

theorem Rounded.not_nan (h : Rounded e r) : isNaN r = false := by
  unfold Rounded at h
  split at h
  · exact not_nan_of_finite h.1
  · simp [isNaN, h.1]

/-- A finite value that bounds the exact result bounds the rounded one: it is no nearer. -/
theorem Rounded.le (h : Rounded e r) (hz : fFinite z) (he : e ≤ fVal z) : fVal r ≤ fVal z := by
  unfold Rounded at h
  split at h
  · have near := h.2.1 z hz
    rw [abs_of_nonneg (sub_nonneg.mpr he)] at near
    linarith [le_abs_self (fVal r - e)]
  next big =>
    have hz_lt := (abs_lt.mp (abs_fVal_of_finite hz))
    have hneg : e < 0 := by
      by_contra hge
      rw [abs_of_nonneg (not_lt.mp hge)] at big
      linarith
    have hr := abs_fVal_of_inf h.1
    rw [abs_of_nonpos (fVal_nonpos (h.2.mpr hneg))] at hr
    linarith

theorem Rounded.ge (h : Rounded e r) (hz : fFinite z) (he : fVal z ≤ e) : fVal z ≤ fVal r := by
  unfold Rounded at h
  split at h
  · have near := h.2.1 z hz
    rw [abs_of_nonpos (sub_nonpos.mpr he)] at near
    linarith [neg_abs_le (fVal r - e)]
  next big =>
    have hz_lt := (abs_lt.mp (abs_fVal_of_finite hz))
    have hpos : ¬ e < 0 := fun hneg => by
      rw [abs_of_neg hneg] at big
      linarith
    have hr := abs_fVal_of_inf h.1
    rw [abs_of_nonneg (fVal_nonneg (Bool.eq_false_iff.mpr (mt h.2.mp hpos)))] at hr
    linarith

end

section
variable {x y : F32}

/-- A sum of values that are not negative is not negative; an infinite addend is the sum. -/
theorem rateLegal_fadd (hx : fFinite x) (hx0 : 0 ≤ fVal x) (hy : rateLegal y = true) : rateLegal (fadd x y) = true := by
  obtain ⟨hyn, hy0⟩ := rateLegal_iff.mp hy
  rcases finite_or_inf hyn with hfin | hinf
  · have sum := rounded_fadd hx hfin
    have bound := sum.ge (z := fZero) (by decide) (by rw [fVal_fZero]; linarith)
    exact rateLegal_iff.mpr ⟨sum.not_nan, by rwa [fVal_fZero] at bound⟩
  · rwa [fadd_finite_inf (by simpa [isInf] using hinf) hx]

/-- What a rate takes away leaves no more than there was; an infinite one leaves negative infinity. -/
theorem fsub_le_self (hx : fFinite x) (hy : rateLegal y = true) : isNaN (fsub x y) = false ∧ fVal (fsub x y) ≤ fVal x := by
  obtain ⟨hyn, hy0⟩ := rateLegal_iff.mp hy
  rcases finite_or_inf hyn with hfin | hinf
  · have difference := rounded_fsub hx hfin
    exact ⟨difference.not_nan, difference.le hx (by linarith)⟩
  · have hval := abs_fVal_of_inf hinf
    rw [abs_of_nonneg hy0] at hval
    have lower := (abs_lt.mp (abs_fVal_of_finite hx)).1
    rw [fsub, fadd_finite_inf (isInf_fneg_of_inf (by simpa [isInf] using hinf)) hx]
    exact ⟨isNaN_fneg hyn, by rw [fVal_fneg hyn, hval]; linarith⟩

/-- A product of words of one sign is not negative; a NaN has the sign 0 too (spec/00_scope.md R19). -/
theorem fNeg_fmul_same (h : fNeg? x = fNeg? y) : fNeg? (fmul x y) = false := by
  unfold fmul
  rw [h, bne_self_eq_false]
  split
  · rfl
  · split
    · split
      · rfl
      · exact fNeg_packMag _ _
    · exact fNeg_roundQuot _ _ _

theorem fNeg_fdiv_same (h : fNeg? x = fNeg? y) : fNeg? (fdiv x y) = false := by
  unfold fdiv
  rw [h, bne_self_eq_false]
  split
  · rfl
  · split
    · split
      · rfl
      · exact fNeg_packMag _ _
    · split
      · exact fNeg_packMag _ _
      · split
        · split
          · rfl
          · exact fNeg_packMag _ _
        · exact fNeg_roundQuot _ _ _

end

end Sys2Proof.Machine

/-! The legal values of spec/10_state.md that every step keeps, per move, then per update, and carried to a step by
`step_cases`. -/

namespace Sys2Proof.Machine

/-! ## Clamped operands and outputs -/

/-- A clamp to [-1.0, 1.0] lets only a NaN through (spec/00_scope.md R20). -/
theorem fclamp_inUnitRange (x : F32) :
    isNaN (fclamp x fMinusOne fOne) = true ∨ inUnitRange (fclamp x fMinusOne fOne) = true := by
  unfold fclamp
  split
  · exact .inr (by decide)
  next high =>
    split
    · exact .inr (by decide)
    next low =>
      by_cases hx : isNaN x = true
      · exact .inl hx
      · rw [Bool.not_eq_true] at hx
        have hle := fVal_le_of_not_flt isNaN_fOne hx high
        have hge := fVal_le_of_not_flt hx isNaN_fMinusOne low
        exact .inr (inUnitRange_iff.mpr ⟨hx, by simpa using hge, by simpa using hle⟩)

theorem inUnit_of_not_flt {v : F32} (hv : isNaN v = false) (low : ¬ flt v fZero = true) (high : ¬ flt fOne v = true) :
    inUnit v = true :=
  inUnit_iff.mpr ⟨hv, by simpa using fVal_le_of_not_flt hv isNaN_fZero low,
    by simpa using fVal_le_of_not_flt isNaN_fOne hv high⟩

theorem inUnit_sustainLevel {v : F32} (hv : isNaN v = false) : inUnit (sustainLevel v) = true := by
  unfold sustainLevel
  split
  · decide
  · split
    · decide
    · exact inUnit_of_not_flt hv ‹_› ‹_›

theorem inUnit_unitClamp (v : F32) : inUnit (unitClamp v) = true := by
  unfold unitClamp
  split
  · decide
  next h =>
    rw [Bool.or_eq_true, not_or, Bool.not_eq_true] at h
    split
    · decide
    · exact inUnit_of_not_flt h.1 h.2 ‹_›

/-- A sanitised rate is no NaN and not negative (spec/43_envelopes.md R340). -/
theorem rateLegal_sanRate (r : F32) : rateLegal (sanRate r) = true := by
  unfold sanRate
  split
  · decide
  next hn =>
    rw [Bool.not_eq_true] at hn
    split
    · have pos : fNeg? (fabs r) = false := by
        simp [fabs, hn, fNeg?, BitVec.msb_and, show (2147483647#32).msb = false by decide]
      have mag := fMag_fabs hn
      exact rateLegal_iff.mpr ⟨by simpa [isNaN, mag] using hn, fVal_nonneg pos⟩
    next low => exact rateLegal_iff.mpr ⟨hn, by simpa using fVal_le_of_not_flt hn isNaN_fZero low⟩

/-- The bow table's output is the reciprocal of a square, cut at 1.0 (spec/42_nonlinear.md R302). -/
theorem bowOut_inUnit (q : Bow) (dv : F32) : isNaN (bowOut q dv) = true ∨ inUnit (bowOut q dv) = true := by
  have pos : fNeg? (bowRaw q dv) = false := fNeg_fdiv_same (fNeg_fmul_same rfl).symm
  unfold bowOut
  split
  · exact .inr (by decide)
  next high =>
    by_cases hn : isNaN (bowRaw q dv) = true
    · exact .inl hn
    · rw [Bool.not_eq_true] at hn
      exact .inr (inUnit_iff.mpr ⟨hn, fVal_nonneg pos, by simpa using fVal_le_of_not_flt isNaN_fOne hn high⟩)

/-! ## Noise (R45) -/

/-- The conversion is the rounding of the number (spec/44_sources.md R381). -/
theorem rounded_fOfInt32 (w : Word) : Rounded (w.toInt : ℚ) (fOfInt32 w) := by
  have h := rounded_roundQuot (num := w.toInt.natAbs * unitScale) w.msb Nat.one_pos
  have value : (if w.msb then (-1 : ℚ) else 1) * (((w.toInt.natAbs * unitScale : Nat) : ℚ) / (1 : Nat)) / 2 ^ 149 =
      w.toInt := by
    rw [BitVec.msb_eq_toInt, Nat.cast_one, div_one, Nat.cast_mul, unitScale, Nat.cast_pow, Nat.cast_two, ← mul_assoc,
      mul_div_cancel_right₀ _ (by positivity), Nat.cast_natAbs]
    by_cases hn : w.toInt < 0
    · simp [hn, abs_of_neg hn]
    · simp [hn, abs_of_nonneg (not_lt.mp hn)]
  rwa [value] at h

/-- An int32 rounds into [-2^31, 2^31], and the scaling by 2^-31 into [-1, 1] (spec/44_sources.md R381). -/
theorem noiseSample_inUnitRange (w : Word) : inUnitRange (noiseSample w) = true := by
  have top : fVal 0x4F000000#32 = 2 ^ 31 := by
    rw [fVal, show signedScaled 0x4F000000#32 = 2 ^ 180 by decide]; norm_num
  have bottom : fVal 0xCF000000#32 = -2 ^ 31 := by
    rw [fVal, show signedScaled 0xCF000000#32 = -2 ^ 180 by decide]; norm_num
  have scale : fVal 0x30000000#32 = 1 / 2 ^ 31 := by
    rw [fVal, show signedScaled 0x30000000#32 = 2 ^ 118 by decide]; norm_num
  have high : (w.toInt : ℚ) ≤ 2 ^ 31 := by exact_mod_cast (BitVec.toInt_lt (x := w)).le
  have low : -2 ^ 31 ≤ (w.toInt : ℚ) := by exact_mod_cast BitVec.le_toInt w
  have int := rounded_fOfInt32 w
  have int_le := int.le (z := 0x4F000000#32) (by decide) (by rwa [top])
  have int_ge := int.ge (z := 0xCF000000#32) (by decide) (by rwa [bottom])
  rw [top] at int_le
  rw [bottom] at int_ge
  have int_finite : fFinite (fOfInt32 w) :=
    finite_of_abs_fVal_lt int.not_nan (abs_lt.mpr ⟨by linarith, by linarith⟩)
  have product : Rounded _ (noiseSample w) := rounded_fmul int_finite (by decide)
  rw [scale] at product
  have product_le := product.le (z := fOne) (by decide) (by rw [fVal_fOne]; linarith)
  have product_ge := product.ge (z := fMinusOne) (by decide) (by rw [fVal_fMinusOne]; linarith)
  exact inUnitRange_iff.mpr ⟨product.not_nan, by simpa using product_ge, by simpa using product_le⟩

/-- A draw is in range whatever the free word is (log 4). -/
theorem drawSample_inUnitRange (n : Nat) : inUnitRange (drawSample n) = true := by
  unfold drawSample
  split
  · assumption
  · decide

/-! ## Oscillator frequency (R46) -/

/-- Half a legal sample rate is no NaN and not negative. -/
theorem nyquist_legal {fs : F32} (h : rateOfBuild fs) : isNaN (nyquist fs) = false ∧ 0 ≤ fVal (nyquist fs) := by
  obtain ⟨-, hlt⟩ := h
  have hlt' : fs.toNat < 2139095040 := hlt
  have pos : fNeg? fs = false := by simp only [fNeg?, BitVec.msb_eq_decide, decide_eq_false_iff_not]; omega
  have fin : fFinite fs := lt_of_le_of_lt (Nat.mod_le _ _) hlt
  have product : Rounded _ (nyquist fs) := rounded_fmul fin (y := fDec 5 10) (by decide)
  exact ⟨product.not_nan, fVal_nonneg (fNeg_fmul_same (by rw [pos]; decide))⟩

theorem freqLegal_iff {fs f : F32} (h : rateOfBuild fs) :
    freqLegal fs f = true ↔ isNaN f = false ∧ -fVal (nyquist fs) ≤ fVal f ∧ fVal f ≤ fVal (nyquist fs) := by
  obtain ⟨hn, -⟩ := nyquist_legal h
  simp only [freqLegal, Bool.and_eq_true, fle_iff_fVal, isNaN_fneg hn, fVal_fneg hn, hn]
  tauto

theorem freqLegal_zero {fs : F32} (h : rateOfBuild fs) : freqLegal fs fZero = true := by
  obtain ⟨-, h0⟩ := nyquist_legal h
  exact (freqLegal_iff h).mpr ⟨isNaN_fZero, by simpa using h0, by simpa using h0⟩

theorem freqLegal_oscFreq {fs : F32} (h : rateOfBuild fs) (f : F32) : freqLegal fs (oscFreq fs f) = true := by
  obtain ⟨hn, h0⟩ := nyquist_legal h
  unfold oscFreq
  split
  · exact freqLegal_zero h
  next hf =>
    rw [Bool.not_eq_true] at hf
    split
    · exact (freqLegal_iff h).mpr ⟨hn, by linarith, le_rfl⟩
    next high =>
      split
      · exact (freqLegal_iff h).mpr ⟨isNaN_fneg hn, by rw [fVal_fneg hn], by rw [fVal_fneg hn]; linarith⟩
      next low =>
        have hge := fVal_le_of_not_flt hf (isNaN_fneg hn) low
        rw [fVal_fneg hn] at hge
        exact (freqLegal_iff h).mpr ⟨hf, hge, fVal_le_of_not_flt hn hf high⟩

/-! ## Envelopes (R43, R44) -/

/-- What `State.InRange` asks of an ENV unit (spec/43_envelopes.md R340, R342). -/
abbrev envLegal (q : Env) : Prop := isNaN q.target = false ∧ rateLegal q.rate

theorem EnvMove.legal {q q' : Env} (h : EnvMove q q') (hq : envLegal q) : envLegal q' := by
  obtain ⟨target, rate⟩ := hq
  cases h with
  | setRate r => exact ⟨target, rateLegal_sanRate r⟩
  | aim t ht => exact ⟨ht, rate⟩
  | setValue v hv => exact ⟨hv, rate⟩
  | tick =>
    unfold envTick
    split
    · exact ⟨target, rate⟩
    · split
      · exact ⟨target, rate⟩
      · exact ⟨target, rate⟩

section
variable {x y r : F32}

/-- A step up from a legal value that stays below a legal level is legal. -/
theorem inUnit_fadd_of_not_arrived (hx : inUnit x = true) (hr : rateLegal r = true) (hy : inUnit y = true)
    (h : ¬ fle y (fadd x r) = true) : inUnit (fadd x r) = true := by
  obtain ⟨-, hx0, -⟩ := inUnit_iff.mp hx
  obtain ⟨hyn, -, hy1⟩ := inUnit_iff.mp hy
  obtain ⟨hn, h0⟩ := rateLegal_iff.mp (rateLegal_fadd (fFinite_of_inUnit hx) hx0 hr)
  exact inUnit_iff.mpr ⟨hn, h0, (fVal_lt_of_not_fle hyn hn h).le.trans hy1⟩

/-- A step down from a legal value that stays above a legal level is legal. -/
theorem inUnit_fsub_of_not_arrived (hx : inUnit x = true) (hr : rateLegal r = true) (hy : inUnit y = true)
    (h : ¬ fle (fsub x r) y = true) : inUnit (fsub x r) = true := by
  obtain ⟨-, -, hx1⟩ := inUnit_iff.mp hx
  obtain ⟨hyn, hy0, -⟩ := inUnit_iff.mp hy
  obtain ⟨hn, hle⟩ := fsub_le_self (fFinite_of_inUnit hx) hr
  exact inUnit_iff.mpr ⟨hn, hy0.trans (fVal_lt_of_not_fle hn hyn h).le, hle.trans hx1⟩

end

theorem adsrLegal_setSustain {q : Adsr} (hq : adsrLegal q) {v : F32} (hv : inUnit v = true) :
    adsrLegal (adsrSetSustain q v) := by
  obtain ⟨value, target, -, attack, decay, release⟩ := hq
  cases hs : q.state with
  | decay | sustain => simp [adsrSetSustain, adsrLegal, adsrGoal, hs, value, hv, attack, decay, release]
  | attack | release | idle =>
    simp [adsrSetSustain, adsrLegal, adsrGoal, hs, value, target, hv, attack, decay, release]

/-- A tick moves VALUE within [0, 1], and where it changes the stage TARGET is that of the new stage (R354). -/
theorem adsrLegal_tick {q : Adsr} (hq : adsrLegal q) : adsrLegal (adsrTick q) := by
  have ⟨value, target, sustain, attack, decay, release⟩ := hq
  unfold adsrTick
  split
  next stage =>
    rw [adsrGoal, stage] at target
    unfold adsrAttack
    split
    · exact ⟨inUnit_fOne, rfl, sustain, attack, decay, release⟩
    next short =>
      exact ⟨inUnit_fadd_of_not_arrived value attack inUnit_fOne short, by simpa [adsrGoal, stage] using target, sustain,
        attack, decay, release⟩
  next stage =>
    rw [adsrGoal, stage] at target
    unfold adsrDecay
    split
    · split
      · exact ⟨sustain, target, sustain, attack, decay, release⟩
      next short =>
        exact ⟨inUnit_fsub_of_not_arrived value decay sustain short, by simpa [adsrGoal, stage] using target, sustain,
          attack, decay, release⟩
    · split
      · exact ⟨sustain, target, sustain, attack, decay, release⟩
      next short =>
        exact ⟨inUnit_fadd_of_not_arrived value decay sustain short, by simpa [adsrGoal, stage] using target, sustain,
          attack, decay, release⟩
  next stage =>
    rw [adsrGoal, stage] at target
    unfold adsrRelease
    split
    · exact ⟨inUnit_fZero, target, sustain, attack, decay, release⟩
    next short =>
      exact ⟨inUnit_fsub_of_not_arrived value release inUnit_fZero short, by simpa [adsrGoal, stage] using target, sustain,
        attack, decay, release⟩
  · exact hq
  · exact hq

theorem AdsrMove.legal {q q' : Adsr} (h : AdsrMove q q') (hq : adsrLegal q) : adsrLegal q' := by
  have ⟨value, target, sustain, attack, decay, release⟩ := hq
  cases h with
  | setAttack r => exact ⟨value, target, sustain, rateLegal_sanRate r, decay, release⟩
  | setDecay r => exact ⟨value, target, sustain, attack, rateLegal_sanRate r, release⟩
  | setSustain v hv => exact adsrLegal_setSustain hq (inUnit_sustainLevel hv)
  | setRelease r => exact ⟨value, target, sustain, attack, decay, rateLegal_sanRate r⟩
  | keyOn => exact ⟨value, rfl, sustain, attack, decay, release⟩
  | keyOff => exact ⟨value, rfl, sustain, attack, decay, release⟩
  | tick => exact adsrLegal_tick hq

/-! ## The moves of the other units -/

section
variable {ok : F32 → Prop} {fs : F32}

theorem BowMove.legal {q q' : Bow} (h : BowMove ok q q') (hq : isNaN q.last ∨ inUnit q.last) :
    isNaN q'.last ∨ inUnit q'.last := by
  cases h with
  | setOffset | setSlope => exact hq
  | tick x => exact bowOut_inUnit q x

theorem ReedMove.legal {q q' : Reed} (h : ReedMove ok q q') (hq : isNaN q.last ∨ inUnitRange q.last) :
    isNaN q'.last ∨ inUnitRange q'.last := by
  cases h with
  | setOffset | setSlope => exact hq
  | tick x => exact fclamp_inUnitRange _

theorem JetMove.legal {q q' : Jet} (h : JetMove q q') : isNaN q'.last ∨ inUnitRange q'.last := by
  cases h with
  | tick x => exact fclamp_inUnitRange _

theorem NoiseMove.legal {q q' : Noise} (h : NoiseMove q q') (hq : inUnitRange q.last) : inUnitRange q'.last := by
  cases h with
  | seed => exact hq
  | tick => exact noiseSample_inUnitRange _
  | draw n => exact drawSample_inUnitRange n

theorem OscMove.legal {q q' : Osc} (h : OscMove fs q q') (hfs : rateOfBuild fs) (hq : freqLegal fs q.freq) :
    freqLegal fs q'.freq := by
  cases q
  cases h with
  | setFreq f => exact freqLegal_oscFreq hfs f
  | restart | tick | write => exact hq

theorem amp_voiceSet {v w : Voice} {k : Nat} {x : F32} (h : voiceSet v k x = some w) : w.amp = v.amp := by
  unfold voiceSet at h
  split at h <;> cases h <;> rfl

theorem amp_voiceDefaults (v : Voice) (i : Instrument) : (voiceDefaults v i).amp = v.amp := by cases i <;> rfl

theorem VoiceMove.legal {v w : Voice} (h : VoiceMove ok fs v w) (hv : inUnit v.amp) : inUnit w.amp := by
  cases h with
  | setReg k x hx w h => rwa [amp_voiceSet h]
  | select i => rwa [amp_voiceDefaults]
  | silence => exact inUnit_fZero
  | setAmp x => exact inUnit_unitClamp x
  | tuned | setState | setLast => exact hv

end

/-! ## States -/

/-- `State.InRange` class by class. -/
structure State.InRangeUnits (s : State) : Prop where
  fs : rateOfBuild s.fs
  bow : ∀ q ∈ s.bow, isNaN q.last ∨ inUnit q.last
  reed : ∀ q ∈ s.reed, isNaN q.last ∨ inUnitRange q.last
  jet : ∀ q ∈ s.jet, isNaN q.last ∨ inUnitRange q.last
  env : ∀ q ∈ s.env, envLegal q
  adsr : ∀ q ∈ s.adsr, adsrLegal q
  ns : ∀ q ∈ s.ns, inUnitRange q.last
  osc : ∀ q ∈ s.osc, freqLegal s.fs q.freq
  voice : inUnit s.voice.amp

theorem State.inRange_iff_units {s : State} : s.InRange ↔ s.InRangeUnits :=
  ⟨fun ⟨fs, bow, reed, jet, env, adsr, ns, osc, voice⟩ => ⟨fs, bow, reed, jet, env, adsr, ns, osc, voice⟩,
    fun ⟨fs, bow, reed, jet, env, adsr, ns, osc, voice⟩ => ⟨fs, bow, reed, jet, env, adsr, ns, osc, voice⟩⟩

/-- The reset values are legal; an oscillator at 0.0 because half a legal sample rate is not negative. -/
theorem inRangeUnits_restart {s : State} (hfs : rateOfBuild s.fs) : (restart s).InRangeUnits where
  fs := hfs
  bow := List.forall_mem_map.mpr fun _ _ => by decide
  reed := List.forall_mem_map.mpr fun _ _ => by decide
  jet := List.forall_mem_map.mpr fun _ _ => by decide
  env := List.forall_mem_map.mpr fun _ _ => by decide
  adsr := List.forall_mem_map.mpr fun _ _ => by decide
  ns := List.forall_mem_map.mpr fun _ _ => by decide
  osc := List.forall_mem_map.mpr fun _ _ => freqLegal_zero hfs
  voice := inUnit_fZero

theorem Update.inRangeUnits {s t : State} (h : Update s t) (hs : s.InRangeUnits) : t.InRangeUnits := by
  cases h with
  | reset => exact inRangeUnits_restart hs.fs
  | bow u q h => exact { hs with bow := forall_mem_set hs.bow fun hq => h.legal hq }
  | reed u q h => exact { hs with reed := forall_mem_set hs.reed fun hq => h.legal hq }
  | jet u q h => exact { hs with jet := forall_mem_set (d := Jet.reset) hs.jet fun _ => h.legal }
  | env u q h => exact { hs with env := forall_mem_set hs.env fun hq => h.legal hq }
  | adsr u q h => exact { hs with adsr := forall_mem_set hs.adsr fun hq => h.legal hq }
  | ns u q h => exact { hs with ns := forall_mem_set hs.ns fun hq => h.legal hq }
  | osc u q h => exact { hs with osc := forall_mem_set hs.osc fun hq => h.legal hs.fs hq }
  | voice v h => exact { hs with voice := h.legal hs.voice }
  | _ => exact { hs with }

/-- Settles O14: every update keeps the values of every unit and of the voice legal. -/
theorem everyStepKeepsLegalValues : Obligations.EveryStepKeepsLegalValues := by
  intro s t hs h
  rw [State.inRange_iff_units] at hs ⊢
  obtain ⟨es, rfl | rfl | ⟨r, hr, rfl⟩⟩ := step_cases h
  · exact { hs with }
  · exact inRangeUnits_restart hs.fs
  · have start : (startCommand { s with inbox := es }).InRangeUnits := { hs with }
    exact { hr.keeps (fun _ _ => Update.inRangeUnits) start with }

end Sys2Proof.Machine

/-! TICK_COUNT (spec/10_state.md R55): no shared operation, no sub-operation and no rule of the voice but V.TICK's touches
it, so that each command but V.TICK, SYS.WRREG and SYS.RESET keeps it. -/

namespace Sys2Proof.Machine

section
variable (s : State) (u : Nat) (x : F32)

/-! ## The shared operations -/

@[simp] theorem raiseIf_tickCount (c : Bool) (w : Warning) : (raiseIf c w s).tickCount = s.tickCount := by
  cases c <;> rfl

@[simp] theorem refuse_tickCount : (refuse s).tickCount = s.tickCount := rfl

@[simp] theorem answerReg_tickCount (r : Option Word) : (answerReg r s).tickCount = s.tickCount := by cases r <;> rfl

/-- Of the system registers only index 4 is TICK_COUNT (spec/48_system.md R503). -/
theorem sysWrite_tickCount_of_ne {reg : Nat} (h : reg ≠ 4) (v : Word) : (sysWrite reg v s).tickCount = s.tickCount := by
  unfold sysWrite
  split
  · rfl
  · rfl
  · exact absurd rfl h
  · rfl

/-! ## The sub-operations -/

@[simp] theorem subDlSetDelay_tickCount : (subDlSetDelay u x s).tickCount = s.tickCount := by simp [subDlSetDelay]
@[simp] theorem subDlTick_tickCount : (subDlTick u x s).1.tickCount = s.tickCount := rfl
@[simp] theorem subDlClear_tickCount : (subDlClear u s).tickCount = s.tickCount := rfl
@[simp] theorem subOpSetPole_tickCount : (subOpSetPole u x s).tickCount = s.tickCount := rfl
@[simp] theorem subOpSetGain_tickCount : (subOpSetGain u x s).tickCount = s.tickCount := rfl
@[simp] theorem subOpTick_tickCount : (subOpTick u x s).1.tickCount = s.tickCount := rfl
@[simp] theorem subOpClear_tickCount : (subOpClear u s).tickCount = s.tickCount := rfl
@[simp] theorem subOzSetZero_tickCount : (subOzSetZero u x s).tickCount = s.tickCount := rfl
@[simp] theorem subOzSetGain_tickCount : (subOzSetGain u x s).tickCount = s.tickCount := rfl
@[simp] theorem subOzTick_tickCount : (subOzTick u x s).1.tickCount = s.tickCount := rfl
@[simp] theorem subOzClear_tickCount : (subOzClear u s).tickCount = s.tickCount := rfl
@[simp] theorem subPzSetBlockZero_tickCount : (subPzSetBlockZero u x s).tickCount = s.tickCount := rfl
@[simp] theorem subPzTick_tickCount : (subPzTick u x s).1.tickCount = s.tickCount := rfl
@[simp] theorem subPzClear_tickCount : (subPzClear u s).tickCount = s.tickCount := rfl
@[simp] theorem subBqSetFreqReson_tickCount (r : F32) : (subBqSetFreqReson u x r s).tickCount = s.tickCount := rfl
@[simp] theorem subBqTick_tickCount : (subBqTick u x s).1.tickCount = s.tickCount := rfl
@[simp] theorem subBqClear_tickCount : (subBqClear u s).tickCount = s.tickCount := rfl
@[simp] theorem subBowSetOffset_tickCount : (subBowSetOffset u x s).tickCount = s.tickCount := rfl
@[simp] theorem subBowSetSlope_tickCount : (subBowSetSlope u x s).tickCount = s.tickCount := rfl
@[simp] theorem subBowTick_tickCount : (subBowTick u x s).1.tickCount = s.tickCount := rfl
@[simp] theorem subReedSetOffset_tickCount : (subReedSetOffset u x s).tickCount = s.tickCount := rfl
@[simp] theorem subReedSetSlope_tickCount : (subReedSetSlope u x s).tickCount = s.tickCount := rfl
@[simp] theorem subReedTick_tickCount : (subReedTick u x s).1.tickCount = s.tickCount := rfl
@[simp] theorem subJetTick_tickCount : (subJetTick u x s).1.tickCount = s.tickCount := rfl
@[simp] theorem subLipSetFreqReson_tickCount (r : F32) : (subLipSetFreqReson u x r s).tickCount = s.tickCount := rfl
@[simp] theorem subLipTick_tickCount (y : F32) : (subLipTick u x y s).1.tickCount = s.tickCount := rfl
@[simp] theorem subLipClear_tickCount : (subLipClear u s).tickCount = s.tickCount := rfl
@[simp] theorem subEnvSetRate_tickCount : (subEnvSetRate u x s).tickCount = s.tickCount := by simp [subEnvSetRate]
@[simp] theorem subEnvTick_tickCount : (subEnvTick u s).1.tickCount = s.tickCount := rfl
@[simp] theorem subOscSetFreq_tickCount : (subOscSetFreq u x s).tickCount = s.tickCount := by simp [subOscSetFreq]
@[simp] theorem subOscReset_tickCount : (subOscReset u s).tickCount = s.tickCount := rfl
@[simp] theorem subOscTick_tickCount : (subOscTick u s).1.tickCount = s.tickCount := rfl

@[simp] theorem subBqSetCoef_tickCount (k : Nat) : (subBqSetCoef u k x s).tickCount = s.tickCount := by
  unfold subBqSetCoef
  split <;> rfl

@[simp] theorem subLipSetCoef_tickCount (k : Nat) : (subLipSetCoef u k x s).tickCount = s.tickCount := by
  unfold subLipSetCoef
  split <;> rfl

@[simp] theorem subEnvSetTarget_tickCount : (subEnvSetTarget u x s).tickCount = s.tickCount := by
  unfold subEnvSetTarget
  split <;> rfl

@[simp] theorem subEnvSetValue_tickCount : (subEnvSetValue u x s).tickCount = s.tickCount := by
  unfold subEnvSetValue
  split <;> rfl

@[simp] theorem subNsTick_tickCount : (subNsTick u s).1.tickCount = s.tickCount := by
  unfold subNsTick
  split <;> rfl

/-! ## The rules of the voice -/

@[simp] theorem distribute_tickCount : (distribute x s).tickCount = s.tickCount := by
  unfold distribute
  split <;> simp

@[simp] theorem setFreq_tickCount : (setFreq x s).tickCount = s.tickCount := by
  simp only [setFreq]
  split <;> simp

@[simp] theorem excite_tickCount : (excite s).1.tickCount = s.tickCount := by simp [excite]

theorem loopBowed_tickCount : (loopBowed s).1.tickCount = s.tickCount := by
  simp only [loopBowed, subBqTick_tickCount]
  split <;> simp

@[simp] theorem loopBody_tickCount : (loopBody s).1.tickCount = s.tickCount := by
  unfold loopBody
  split
  · exact loopBowed_tickCount s
  · simp [loopClarinet]
  · simp [loopFlute]
  · simp [loopBrass]
  · simp [loopPlucked]
  · rfl

@[simp] theorem pluckTicks_tickCount (n : Nat) : (pluckTicks n s).tickCount = s.tickCount := by
  induction n generalizing s with
  | zero => rfl
  | succ n ih => simp [pluckTicks, ih, pluckTick]

@[simp] theorem configureUnits_tickCount (i : Instrument) : (configureUnits i s).tickCount = s.tickCount := by
  cases i <;> simp [configureUnits]

@[simp] theorem voiceReset_tickCount : (voiceReset s).tickCount = s.tickCount := by simp [voiceReset]

@[simp] theorem selectInstrument_tickCount (i : Instrument) : (selectInstrument i s).tickCount = s.tickCount := by
  simp [selectInstrument]

@[simp] theorem startExcitation_tickCount : (startExcitation x s).tickCount = s.tickCount := by
  unfold startExcitation
  split
  · simp [pluckFill]
  · simp

@[simp] theorem noteOn_tickCount (amp : F32) : (noteOn x amp s).tickCount = s.tickCount := by simp [noteOn]

@[simp] theorem releaseExcitation_tickCount : (releaseExcitation x s).tickCount = s.tickCount := by
  unfold releaseExcitation
  split <;> simp

@[simp] theorem noteOff_tickCount : (noteOff x s).tickCount = s.tickCount := by
  simp only [noteOff]
  split <;> simp

@[simp] theorem releaseCheck_tickCount : (releaseCheck s).tickCount = s.tickCount := by
  unfold releaseCheck
  split <;> rfl

/-- The one rule that counts (spec/45_voice.md R430). -/
@[simp] theorem voiceTick_tickCount : (voiceTick s).tickCount = s.tickCount + 1#32 := by simp [voiceTick]

/-- No action of the controller map counts (spec/45_voice.md R433). -/
theorem ccAction_tickCount {i : Instrument} {num : Nat} {act : F32 → State → State} (h : ccAction i num = some act) :
    (act x s).tickCount = s.tickCount := by
  unfold ccAction at h
  split at h <;> cases h <;> simp [ccVibrato, ccNoise, ccRate, ccPosition]

@[simp] theorem controlChange_tickCount (num : Nat) : (controlChange num x s).tickCount = s.tickCount := by
  unfold controlChange
  split
  · rfl
  · rw [ccAction_tickCount _ _ ‹_›, raiseIf_tickCount]

end

/-! ## Commands -/

section
variable {body : State → State} {s t : State}

/-- TICK_COUNT after a command is TICK_COUNT after its rule. -/
theorem command_tickCount (h : command body s = .next t) : t.tickCount = (body (startCommand s)).tickCount := by
  rw [command_eq] at h
  cases h
  rfl

theorem command_keeps_tickCount (h : command body s = .next t) (hb : ∀ s, (body s).tickCount = s.tickCount) :
    t.tickCount = s.tickCount :=
  (command_tickCount h).trans (hb _)

theorem unitCommand_keeps_tickCount {n u : Nat} (h : command (onUnit n u body) s = .next t)
    (hb : ∀ s, (body s).tickCount = s.tickCount) : t.tickCount = s.tickCount := by
  refine command_keeps_tickCount h fun s => ?_
  unfold onUnit
  split
  · exact hb s
  · rfl

theorem voiceCommand_keeps_tickCount (h : command (onVoice body) s = .next t)
    (hb : ∀ s, (body s).tickCount = s.tickCount) : t.tickCount = s.tickCount := by
  refine command_keeps_tickCount h fun s => ?_
  unfold onVoice
  split
  · rfl
  · exact hb s

theorem execVTick_tickCount (h : execVTick s = .next t) :
    t.tickCount = if s.voice.instr = .none then s.tickCount else s.tickCount + 1#32 := by
  rw [command_tickCount h]
  split
  next hnone => rw [onVoice_of_none (s := startCommand s) hnone]; rfl
  next hsome => rw [onVoice_of_ne (s := startCommand s) hsome]; exact voiceTick_tickCount _

/-- Every command but V.TICK, a write of TICK_COUNT and SYS.RESET keeps the counter, since its rule does. -/
theorem exec_keeps_tickCount {i : Instr} (h : exec i s = .next t) (htick : i ≠ .vTick)
    (hwrite : ∀ v, i ≠ .sysWrReg 4 v) (hreset : i ≠ .sysReset) : t.tickCount = s.tickCount := by
  cases i with
  | vTick => exact absurd rfl htick
  | sysReset => exact absurd rfl hreset
  | sysWrReg reg v =>
    exact command_keeps_tickCount h fun s => sysWrite_tickCount_of_ne s (fun h4 => hwrite v (by rw [h4])) v
  | sysNop => exact command_keeps_tickCount (body := fun s => s) h fun _ => rfl
  | sysRdReg | vRdReg => exact command_keeps_tickCount h fun s => answerReg_tickCount s _
  | dlTick | dlLastOut | dlClear | opSetPole | opSetGain | opTick | opClear | opLastOut | ozSetZero | ozSetGain | ozTick
  | ozClear | ozLastOut | pzSetA1 | pzSetB0 | pzSetB1 | pzSetBlockZero | pzTick | pzClear | pzLastOut | bqSetFreqReson
  | bqSetEqualGainZeroes | bqTick | bqClear | bqLastOut | bowSetOffset | bowSetSlope | bowTick | reedSetOffset
  | reedSetSlope | reedTick | jetTick | lipSetFreqReson | lipSetEqualGainZeroes | lipTick | lipClear | lipLastOut
  | envKeyOn | envKeyOff | envTick | adsrKeyOn | adsrKeyOff | adsrTick | oscReset | oscTick =>
    exact unitCommand_keeps_tickCount h fun _ => rfl
  | dlRdReg | opRdReg | ozRdReg | pzRdReg | bqRdReg | bowRdReg | reedRdReg | jetRdReg | lipRdReg | envRdReg | adsrRdReg
  | nsRdReg | oscRdReg =>
    exact unitCommand_keeps_tickCount h fun s => answerReg_tickCount s _
  | dlBufRd | oscTblWr | oscTblRd =>
    refine unitCommand_keeps_tickCount h fun s => ?_
    split <;> rfl
  | dlSetDelay u => exact unitCommand_keeps_tickCount h fun s => subDlSetDelay_tickCount s u _
  | bqSetCoef u k => exact unitCommand_keeps_tickCount h fun s => subBqSetCoef_tickCount s u _ k
  | lipSetCoef u k => exact unitCommand_keeps_tickCount h fun s => subLipSetCoef_tickCount s u _ k
  | envSetRate u => exact unitCommand_keeps_tickCount h fun s => subEnvSetRate_tickCount s u _
  | envSetTarget u => exact unitCommand_keeps_tickCount h fun s => subEnvSetTarget_tickCount s u _
  | envSetValue u => exact unitCommand_keeps_tickCount h fun s => subEnvSetValue_tickCount s u _
  | adsrSetAttack | adsrSetDecay | adsrSetRelease | nsSeed =>
    exact unitCommand_keeps_tickCount h fun _ => raiseIf_tickCount _ _ _
  | adsrSetSustain =>
    refine unitCommand_keeps_tickCount h fun s => ?_
    split
    · rfl
    · exact raiseIf_tickCount _ _ _
  | nsTick u => exact unitCommand_keeps_tickCount h fun s => subNsTick_tickCount s u
  | oscSetFreq u => exact unitCommand_keeps_tickCount h fun s => subOscSetFreq_tickCount s u _
  | vNoteOn => exact voiceCommand_keeps_tickCount h fun s => noteOn_tickCount s _ _
  | vNoteOff => exact voiceCommand_keeps_tickCount h fun s => noteOff_tickCount s _
  | vSetFreq => exact voiceCommand_keeps_tickCount h fun s => setFreq_tickCount s _
  | vCc num => exact voiceCommand_keeps_tickCount h fun s => controlChange_tickCount s _ num
  | vReset => exact voiceCommand_keeps_tickCount h voiceReset_tickCount
  | vLastOut => exact voiceCommand_keeps_tickCount h fun _ => rfl
  | vSetInstr id =>
    simp only [exec, execVSetInstr] at h
    refine command_keeps_tickCount h fun s => ?_
    split
    · exact selectInstrument_tickCount s _
    · rfl
  | vWrReg =>
    simp only [exec, execVWrReg] at h
    refine command_keeps_tickCount h fun s => ?_
    split <;> rfl

end

/-- Settles O18: V.TICK counts by its rule, SYS.WRREG and SYS.RESET write the counter, and the rule of every other command
keeps it. -/
theorem tickCountCountsVoiceTicksOnly : Obligations.TickCountCountsVoiceTicksOnly := by
  intro i s t h
  cases i with
  | vTick => exact execVTick_tickCount h
  | sysReset => exact command_tickCount h
  | sysWrReg reg v =>
    have kept (h4 : reg ≠ 4) : t.tickCount = s.tickCount :=
      exec_keeps_tickCount h nofun (fun w hw => h4 (by cases hw; rfl)) nofun
    match reg with
    | 4 => exact command_tickCount h
    | 0 | 1 | 2 | 3 | n + 5 => exact kept (by omega)
  | _ => exact exec_keeps_tickCount h nofun nofun nofun

end Sys2Proof.Machine

/-! Indices out of range (spec/20_memory.md R105, spec/60_exceptions.md R533): a table of registers or coefficients has no
row at such an index, and the rule of the command that asks for it refuses. -/

namespace Sys2Proof.Machine

/-! ## Rules that refuse -/

section
variable {n u : Nat} {body : State → State} {s : State}

theorem command_refused (h : body (startCommand s) = refuse (startCommand s)) :
    command body s = .next (respond 0#32 [.illegal] s) := by
  rw [command_eq, h, endCommand_refuse]

/-- A command of a unit class is refused where its rule refuses, and where the unit does not exist. -/
theorem unitCommand_refused (h : body (startCommand s) = refuse (startCommand s)) :
    command (onUnit n u body) s = .next (respond 0#32 [.illegal] s) := by
  rcases Nat.lt_or_ge u n with hu | hu
  · rw [command_onUnit hu, h, endCommand_refuse]
  · exact command_onUnit_ge hu body s

theorem answerReg_of_none {r : Option Word} (h : r = none) (s : State) : answerReg r s = refuse s := by rw [h]; rfl

/-- A read of an index that the class's table does not list (spec/10_state.md R32). -/
theorem regRead_refused {reg : State → Option Word} (h : reg (startCommand s) = none) :
    command (onUnit n u fun s => answerReg (reg s) s) s = .next (respond 0#32 [.illegal] s) :=
  unitCommand_refused (answerReg_of_none h _)

end

/-! ## The tables end -/

section
variable {k : Nat}

/-- A table indexed by number has no row past its last one. -/
theorem eq_none_of_gt {α : Type} {table : Nat → Option α} {last : Nat} (hend : ∀ n, table (n + (last + 1)) = none)
    (h : last < k) : table k = none := by
  obtain ⟨n, rfl⟩ := Nat.exists_eq_add_of_le' h
  exact hend n

theorem bqSetCoef_of_gt (q : Biquad) (v : F32) (h : 4 < k) : bqSetCoef q k v = none :=
  eq_none_of_gt (table := fun k => bqSetCoef q k v) (fun _ => rfl) h

theorem instrOfId_of_gt (h : 4 < k) : instrOfId k = none := eq_none_of_gt (fun _ => rfl) h

/-- Between the status registers 0 to 5 and the parameters 8 to 23 lies a gap (spec/10_state.md R48, R49). -/
theorem voiceReg_of_unlisted (v : Voice) (h : 5 < k ∧ k < 8 ∨ 23 < k) : voiceReg v k = none := by
  rcases h with ⟨low, high⟩ | h
  · interval_cases k <;> rfl
  · exact eq_none_of_gt (fun _ => rfl) h

/-- Only the parameters are written (spec/45_voice.md R437). -/
theorem voiceSet_of_unlisted (v : Voice) (x : F32) (h : k < 8 ∨ 23 < k) : voiceSet v k x = none := by
  rcases h with h | h
  · interval_cases k <;> rfl
  · exact eq_none_of_gt (table := fun k => voiceSet v k x) (fun _ => rfl) h

/-- Of the system registers STATUS, IRQ_EN and TICK_COUNT are written (spec/48_system.md R503). -/
theorem sysWrite_of_readOnly (s : State) (v : Word) (h : k ∉ [1, 2, 4]) : sysWrite k v s = refuse s := by
  unfold sysWrite
  split
  · exact absurd (by decide) h
  · exact absurd (by decide) h
  · exact absurd (by decide) h
  · rfl

theorem subBqSetCoef_of_gt (u : Nat) (v : F32) (s : State) (h : 4 < k) : subBqSetCoef u k v s = refuse s := by
  rw [subBqSetCoef, bqSetCoef_of_gt _ _ h]

theorem subLipSetCoef_of_gt (u : Nat) (v : F32) (s : State) (h : 4 < k) : subLipSetCoef u k v s = refuse s := by
  rw [subLipSetCoef, bqSetCoef_of_gt _ _ h]

end

/-! ## Commands -/

theorem State.dlAt_of_getElem? {s : State} {u : Nat} {d : DelayLine} (h : s.dl[u]? = some d) : s.dlAt u = d := by
  simp [State.dlAt, List.getD_eq_getElem?_getD, h]

theorem State.oscAt_of_getElem? {s : State} {u : Nat} {o : Osc} (h : s.osc[u]? = some o) : s.oscAt u = o := by
  simp [State.oscAt, List.getD_eq_getElem?_getD, h]

theorem execVSetInstr_of_gt {k : Nat} (h : 4 < k) (s : State) :
    exec (.vSetInstr k) s = .next (respond 0#32 [.illegal] s) := by
  simp only [exec, execVSetInstr, instrOfId_of_gt h]
  exact command_refused rfl

theorem execVWrReg_of_unlisted {k : Nat} (h : k < 8 ∨ 23 < k) (v : Word) (s : State) :
    exec (.vWrReg k v) s = .next (respond 0#32 [.illegal] s) := by
  simp only [exec, execVWrReg, voiceSet_of_unlisted _ _ h]
  exact command_refused rfl

theorem execDlBufRd_of_le {s : State} {u : Nat} {d : DelayLine} (hd : s.dl[u]? = some d) {a : Word}
    (h : d.len ≤ a.toNat) : exec (.dlBufRd u a) s = .next (respond 0#32 [.illegal] s) := by
  rw [← State.dlAt_of_getElem? hd] at h
  exact unitCommand_refused (if_neg (Nat.not_lt.mpr h))

theorem execOscTblWr_of_le {s : State} {u : Nat} {o : Osc} (ho : s.osc[u]? = some o) {k : Nat} (h : o.len ≤ k)
    (v : Word) : exec (.oscTblWr u k v) s = .next (respond 0#32 [.illegal] s) := by
  rw [← State.oscAt_of_getElem? ho] at h
  exact unitCommand_refused (if_neg (Nat.not_lt.mpr h))

theorem execOscTblRd_of_le {s : State} {u : Nat} {o : Osc} (ho : s.osc[u]? = some o) {k : Nat} (h : o.len ≤ k) :
    exec (.oscTblRd u k) s = .next (respond 0#32 [.illegal] s) := by
  rw [← State.oscAt_of_getElem? ho] at h
  exact unitCommand_refused (if_neg (Nat.not_lt.mpr h))

/-- Settles O24: no table has a row at the index, so the rule of the command refuses. -/
theorem indicesOutOfRangeAreRefused : Obligations.IndicesOutOfRangeAreRefused := by
  intro s u k v refused
  refine ⟨fun h => ⟨?bqCoef, ?lipCoef, execVSetInstr_of_gt h s⟩, fun d hd h => execDlBufRd_of_le hd h,
    fun o ho h => ⟨execOscTblWr_of_le ho h v, execOscTblRd_of_le ho h⟩, fun h => ?sysWrite,
    fun h => execVWrReg_of_unlisted h v s, fun h => ?sysRead, fun h => ?voiceRead, fun h => ⟨?dl, ?adsr⟩,
    fun h => ⟨?op, ?env⟩, fun h => ?oz, fun h => ⟨?pz, ?osc⟩, fun h => ?bq, fun h => ⟨?bow, ?reed⟩, fun h => ?jet,
    fun h => ?lip, fun h => ?ns⟩
  case bqCoef => exact unitCommand_refused (subBqSetCoef_of_gt u _ _ h)
  case lipCoef => exact unitCommand_refused (subLipSetCoef_of_gt u _ _ h)
  case sysWrite => exact command_refused (sysWrite_of_readOnly _ v h)
  case sysRead => exact command_refused (answerReg_of_none (eq_none_of_gt (fun _ => rfl) h) _)
  case voiceRead => exact command_refused (answerReg_of_none (voiceReg_of_unlisted _ h) _)
  case dl => exact regRead_refused (eq_none_of_gt (fun _ => rfl) h)
  case adsr => exact regRead_refused (eq_none_of_gt (fun _ => rfl) h)
  case op => exact regRead_refused (eq_none_of_gt (fun _ => rfl) h)
  case env => exact regRead_refused (eq_none_of_gt (fun _ => rfl) h)
  case oz => exact regRead_refused (eq_none_of_gt (fun _ => rfl) h)
  case pz => exact regRead_refused (eq_none_of_gt (fun _ => rfl) h)
  case osc => exact regRead_refused (eq_none_of_gt (fun _ => rfl) h)
  case bq => exact regRead_refused (eq_none_of_gt (fun _ => rfl) h)
  case bow => exact regRead_refused (eq_none_of_gt (fun _ => rfl) h)
  case reed => exact regRead_refused (eq_none_of_gt (fun _ => rfl) h)
  case jet => exact regRead_refused (eq_none_of_gt (fun _ => rfl) h)
  case lip => exact regRead_refused (eq_none_of_gt (fun _ => rfl) h)
  case ns => exact regRead_refused (eq_none_of_gt (fun _ => rfl) h)

end Sys2Proof.Machine

/-! The words that a tick, a clear and a table write leave (spec/20_memory.md R101): each command puts one new line or
table in its place, and a word of it is read by the rules of `MemWrite`. -/

namespace Sys2Proof.Machine

/-! ## Words of a line and of a table -/

theorem memRead_dlTick {d : DelayLine} (hd : lineSound d) (x : F32) (j : Nat) :
    memRead (dlTick d x).buf j = if j = d.wptr then fCanon x else memRead d.buf j := by
  obtain ⟨-, -, -, hwf, -⟩ := hd
  exact memRead_memWrite hwf _ _ _

/-! ## The unit a command puts in its place -/

section
variable {s t : State} {u : Nat}

/-- What a command of a unit class leaves: its rule's result, or a refusal where the unit does not exist. -/
theorem unitCommand_cases {n : Nat} {body : State → State} (h : command (onUnit n u body) s = .next t) :
    (u < n ∧ t = endCommand (body (startCommand s))) ∨ (n ≤ u ∧ t = respond 0#32 [.illegal] s) := by
  rcases Nat.lt_or_ge u n with hu | hu
  · rw [command_onUnit hu] at h
    cases h
    exact .inl ⟨hu, rfl⟩
  · rw [command_onUnit_ge hu] at h
    cases h
    exact .inr ⟨hu, rfl⟩

theorem exec_dlTick_dl {a : Word} (h : exec (.dlTick u a) s = .next t) :
    t.dl = s.dl.set u (dlTick (s.dlAt u) (asF32 a)) := by
  obtain ⟨-, rfl⟩ | ⟨hu, rfl⟩ := unitCommand_cases h
  · rfl
  · exact (List.set_eq_of_length_le hu).symm

theorem exec_dlClear_dl (h : exec (.dlClear u) s = .next t) : t.dl = s.dl.set u (dlClear (s.dlAt u)) := by
  obtain ⟨-, rfl⟩ | ⟨hu, rfl⟩ := unitCommand_cases h
  · rfl
  · exact (List.set_eq_of_length_le hu).symm

theorem exec_oscTblWr_osc {k : Nat} {a : Word} (hk : k < (s.oscAt u).len)
    (h : exec (.oscTblWr u k a) s = .next t) :
    t.osc = s.osc.set u { s.oscAt u with tbl := memWrite (s.oscAt u).tbl k (asF32 a) } := by
  obtain ⟨-, rfl⟩ | ⟨hu, rfl⟩ := unitCommand_cases h
  · exact congrArg (fun r => (endCommand r).osc) (if_pos hk)
  · exact (List.set_eq_of_length_le hu).symm

/-- A unit of the list after unit `u` got the value `x`: that value, or the unit as it was. -/
theorem eq_of_getElem?_set {α : Type} {l l' : List α} {u v : Nat} {x e e' : α} (hset : l' = l.set u x)
    (he : l[v]? = some e) (he' : l'[v]? = some e') : e' = if v = u then x else e := by
  obtain ⟨hv, -⟩ := List.getElem?_eq_some_iff.mp he
  rw [hset, List.getElem?_set, he] at he'
  by_cases huv : v = u
  · subst huv
    simpa [hv] using he'.symm
  · simpa [huv, Ne.symm huv] using he'.symm

end

/-- Settles O29: the written unit by the rules of `MemWrite`, every other one as it was. -/
theorem wordWritesAreExact : Obligations.WordWritesAreExact := by
  intro s t u k a hs
  obtain ⟨-, ⟨lines, tables, -, -⟩, -⟩ := State.sound_iff.mp hs
  refine ⟨fun d hd h v j e e' he he' => ?tick, fun h v j e e' he he' => ?clear, fun o ho hk h v j e e' he he' => ?write⟩
  case tick =>
    obtain rfl := eq_of_getElem?_set (exec_dlTick_dl h) he he'
    rw [State.dlAt_of_getElem? hd]
    by_cases hv : v = u
    · obtain rfl : d = e := by simpa [hv, hd] using he
      simp [hv, memRead_dlTick (lines d (List.mem_of_getElem? hd))]
    · simp [hv]
  case clear =>
    obtain rfl := eq_of_getElem?_set (exec_dlClear_dl h) he he'
    by_cases hv : v = u
    · simp [hv, dlClear]
    · simp [hv]
  case write =>
    have hat := State.oscAt_of_getElem? ho
    obtain rfl := eq_of_getElem?_set (exec_oscTblWr_osc (by rwa [hat]) h) he he'
    rw [hat]
    by_cases hv : v = u
    · obtain rfl : o = e := by simpa [hv, ho] using he
      obtain ⟨-, hwf, -⟩ := tables o (List.mem_of_getElem? ho)
      simp [hv, memRead_memWrite hwf]
    · simp [hv]

end Sys2Proof.Machine

/-! The word spaces (spec/20_memory.md R102, R103; spec/70_reset_and_hazards.md R573): which rules keep the delay buffers
and the wavetables, from the sub-operations up to the commands. -/

namespace Sys2Proof.Machine

/-- The buffer of every line and the table of every oscillator. -/
structure WordSpaces where
  lines : List Memory
  tables : List Memory

/-- The word spaces of a block (spec/20_memory.md R100). -/
def State.words (s : State) : WordSpaces := { lines := s.dl.map (·.buf), tables := s.osc.map (·.tbl) }

section
variable (s : State) (u k : Nat) (x y : F32)

/-! ## The shared operations -/

@[simp] theorem raise_words (w : Warning) : (raise w s).words = s.words := rfl
@[simp] theorem refuse_words : (refuse s).words = s.words := rfl
@[simp] theorem answer_words (w : Word) : (answer w s).words = s.words := rfl
@[simp] theorem setVoice_words (v : Voice) : (s.setVoice v).words = s.words := rfl

@[simp] theorem raiseIf_words (c : Bool) (w : Warning) : (raiseIf c w s).words = s.words := by cases c <;> rfl

@[simp] theorem answerReg_words (r : Option Word) : (answerReg r s).words = s.words := by cases r <;> rfl

theorem sysWrite_words (v : Word) : (sysWrite k v s).words = s.words := by
  unfold sysWrite
  split <;> rfl

/-- A line that keeps its buffer leaves the word spaces. -/
theorem setDl_words {d : DelayLine} (h : d.buf = (s.dlAt u).buf) : (s.setDl u d).words = s.words := by
  simp only [State.words, State.setDl_dl, State.setDl_osc]
  rw [map_set_of_eq h]

/-- An oscillator that keeps its table leaves the word spaces. -/
theorem setOsc_words {o : Osc} (h : o.tbl = (s.oscAt u).tbl) : (s.setOsc u o).words = s.words := by
  simp only [State.words, State.setOsc_dl, State.setOsc_osc]
  rw [map_set_of_eq h]

theorem oscTick_tbl (q : Osc) : (oscTick q).tbl = q.tbl := by cases q; rfl

/-! ## The sub-operations

A tick and a clear of a line write its buffer; no other sub-operation writes a word space. -/

@[simp] theorem subDlSetDelay_words : (subDlSetDelay u x s).words = s.words := by
  rw [subDlSetDelay, raiseIf_words, setDl_words s u (d := dlSetDelay (s.dlAt u) x) rfl]

@[simp] theorem lineWrites_tables :
    (∀ x, (subDlTick u x s).1.words.tables = s.words.tables) ∧ (subDlClear u s).words.tables = s.words.tables :=
  ⟨fun _ => rfl, rfl⟩

@[simp] theorem subOp_words :
    (∀ p, (subOpSetPole u p s).words = s.words) ∧ (∀ g, (subOpSetGain u g s).words = s.words) ∧
    (∀ x, (subOpTick u x s).1.words = s.words) ∧ (subOpClear u s).words = s.words :=
  ⟨fun _ => rfl, fun _ => rfl, fun _ => rfl, rfl⟩

@[simp] theorem subOz_words :
    (∀ z, (subOzSetZero u z s).words = s.words) ∧ (∀ g, (subOzSetGain u g s).words = s.words) ∧
    (∀ x, (subOzTick u x s).1.words = s.words) ∧ (subOzClear u s).words = s.words :=
  ⟨fun _ => rfl, fun _ => rfl, fun _ => rfl, rfl⟩

@[simp] theorem subPz_words :
    (∀ p, (subPzSetBlockZero u p s).words = s.words) ∧ (∀ x, (subPzTick u x s).1.words = s.words) ∧
    (subPzClear u s).words = s.words :=
  ⟨fun _ => rfl, fun _ => rfl, rfl⟩

@[simp] theorem subBq_words :
    (∀ f r, (subBqSetFreqReson u f r s).words = s.words) ∧ (∀ x, (subBqTick u x s).1.words = s.words) ∧
    (subBqClear u s).words = s.words :=
  ⟨fun _ _ => rfl, fun _ => rfl, rfl⟩

@[simp] theorem subBqSetCoef_words : (subBqSetCoef u k x s).words = s.words := by
  unfold subBqSetCoef
  split <;> rfl

@[simp] theorem subBow_words :
    (∀ v, (subBowSetOffset u v s).words = s.words) ∧ (∀ v, (subBowSetSlope u v s).words = s.words) ∧
    ∀ x, (subBowTick u x s).1.words = s.words :=
  ⟨fun _ => rfl, fun _ => rfl, fun _ => rfl⟩

@[simp] theorem subReed_words :
    (∀ v, (subReedSetOffset u v s).words = s.words) ∧ (∀ v, (subReedSetSlope u v s).words = s.words) ∧
    ∀ x, (subReedTick u x s).1.words = s.words :=
  ⟨fun _ => rfl, fun _ => rfl, fun _ => rfl⟩

@[simp] theorem subJetTick_words : (subJetTick u x s).1.words = s.words := rfl

@[simp] theorem subLip_words :
    (∀ f r, (subLipSetFreqReson u f r s).words = s.words) ∧ (∀ m b, (subLipTick u m b s).1.words = s.words) ∧
    (subLipClear u s).words = s.words :=
  ⟨fun _ _ => rfl, fun _ _ => rfl, rfl⟩

@[simp] theorem subLipSetCoef_words : (subLipSetCoef u k x s).words = s.words := by
  unfold subLipSetCoef
  split <;> rfl

@[simp] theorem subEnvTick_words : (subEnvTick u s).1.words = s.words := rfl

@[simp] theorem subEnvSetRate_words : (subEnvSetRate u x s).words = s.words := raiseIf_words _ _ _

@[simp] theorem subEnvSetTarget_words : (subEnvSetTarget u x s).words = s.words := by
  unfold subEnvSetTarget
  split <;> rfl

@[simp] theorem subEnvSetValue_words : (subEnvSetValue u x s).words = s.words := by
  unfold subEnvSetValue
  split <;> rfl

@[simp] theorem subNsTick_words : (subNsTick u s).1.words = s.words := by
  unfold subNsTick
  split <;> rfl

@[simp] theorem subOscSetFreq_words : (subOscSetFreq u x s).words = s.words := by
  rw [subOscSetFreq, raiseIf_words, setOsc_words s u (o := oscSetFreq s.fs (s.oscAt u) x) rfl]

@[simp] theorem subOscReset_words : (subOscReset u s).words = s.words :=
  setOsc_words s u (o := oscRestart (s.oscAt u)) rfl

@[simp] theorem subOscTick_words : (subOscTick u s).1.words = s.words :=
  setOsc_words s u (oscTick_tbl _)

/-! ## The rules of the voice that write no word -/

@[simp] theorem distribute_words : (distribute x s).words = s.words := by
  unfold distribute
  split <;> simp

@[simp] theorem setFreq_words : (setFreq x s).words = s.words := by
  simp only [setFreq]
  split <;> simp

@[simp] theorem excite_words : (excite s).1.words = s.words := by simp [excite]

@[simp] theorem configureUnits_words (i : Instrument) : (configureUnits i s).words = s.words := by
  cases i <;> simp [configureUnits]

@[simp] theorem releaseExcitation_words : (releaseExcitation x s).words = s.words := by
  unfold releaseExcitation
  split <;> simp

theorem noteOff_words : (noteOff x s).words = s.words := by
  simp only [noteOff]
  split <;> simp

@[simp] theorem releaseCheck_words : (releaseCheck s).words = s.words := by
  unfold releaseCheck
  split <;> rfl

/-- No action of the controller map writes a word: the bow position moves read pointers only (spec/45_voice.md R433). -/
theorem ccAction_words {i : Instrument} {num : Nat} {act : F32 → State → State} (h : ccAction i num = some act) :
    (act x s).words = s.words := by
  unfold ccAction at h
  split at h <;> cases h <;> simp [ccVibrato, ccNoise, ccRate, ccPosition]

theorem controlChange_words (num : Nat) : (controlChange num x s).words = s.words := by
  unfold controlChange
  split
  · rfl
  · rw [ccAction_words _ _ ‹_›, raiseIf_words]

/-! ## The rules of the voice that write lines only -/

theorem loopBowed_tables : (loopBowed s).1.words.tables = s.words.tables := by
  simp only [loopBowed, subBq_words]
  split <;> simp

@[simp] theorem loopBody_tables : (loopBody s).1.words.tables = s.words.tables := by
  unfold loopBody
  split
  · exact loopBowed_tables s
  · simp [loopClarinet]
  · simp [loopFlute]
  · simp [loopBrass]
  · simp [loopPlucked]
  · rfl

theorem voiceTick_tables : (voiceTick s).words.tables = s.words.tables := by
  simp only [voiceTick, answer_words, releaseCheck_words]
  exact loopBody_tables s

@[simp] theorem pluckTicks_tables (n : Nat) : (pluckTicks n s).words.tables = s.words.tables := by
  induction n generalizing s with
  | zero => rfl
  | succ n ih => simp [pluckTicks, ih, pluckTick]

@[simp] theorem voiceReset_tables : (voiceReset s).words.tables = s.words.tables := by simp [voiceReset]

theorem selectInstrument_tables (i : Instrument) : (selectInstrument i s).words.tables = s.words.tables := by
  simp [selectInstrument]

@[simp] theorem startExcitation_tables : (startExcitation x s).words.tables = s.words.tables := by
  unfold startExcitation
  split
  · simp [pluckFill]
  · simp

theorem noteOn_tables : (noteOn x y s).words.tables = s.words.tables := by simp [noteOn]

/-! ## A note-on without a pluck (spec/45_voice.md R428) -/

@[simp] theorem raiseIf_voice (c : Bool) (w : Warning) : (raiseIf c w s).voice = s.voice := by cases c <;> rfl

@[simp] theorem distribute_voice : (distribute x s).voice = s.voice := by
  unfold distribute
  split <;> simp [subDlSetDelay]

/-- Tuning writes FREQ and BASE_DELAY (spec/45_voice.md R425). -/
@[simp] theorem setFreq_instr : (setFreq x s).voice.instr = s.voice.instr := by
  simp only [setFreq]
  split <;> simp [subLipSetFreqReson, voiceTuned]

theorem startExcitation_words (h : s.voice.instr ≠ .plucked) : (startExcitation x s).words = s.words := by
  simp [startExcitation, h]

theorem noteOn_words (h : s.voice.instr ≠ .plucked) : (noteOn x y s).words = s.words := by
  simp only [noteOn, setVoice_words]
  rw [startExcitation_words _ _ (by simpa using h)]
  simp

end

/-! ## Commands -/

section
variable {α : Type} {body : State → State} {s t : State} (f : WordSpaces → α)

/-- What a rule keeps of the word spaces, its command keeps. -/
theorem command_keeps_words (h : command body s = .next t) (hb : f (body (startCommand s)).words = f s.words) :
    f t.words = f s.words := by
  rw [command_eq] at h
  cases h
  exact hb

theorem unitCommand_keeps_words {n u : Nat} (h : command (onUnit n u body) s = .next t)
    (hb : f (body (startCommand s)).words = f s.words) : f t.words = f s.words := by
  obtain ⟨-, rfl⟩ | ⟨-, rfl⟩ := unitCommand_cases h
  · exact hb
  · rfl

theorem voiceCommand_keeps_words (h : command (onVoice body) s = .next t)
    (hb : f (body (startCommand s)).words = f s.words) : f t.words = f s.words := by
  refine command_keeps_words f h ?_
  unfold onVoice
  split
  · rfl
  · exact hb

end

/-- What command `i` keeps of the word spaces: it writes lines only, tables only, or neither. -/
def WordsKept (i : Instr) (s t : State) : Prop :=
  match i with
  | .sysReset => True
  | .oscTblWr _ _ _ => t.words.lines = s.words.lines
  | .dlTick _ _ | .dlClear _ | .vTick | .vReset | .vSetInstr _ => t.words.tables = s.words.tables
  | .vNoteOn _ _ => t.words.tables = s.words.tables ∧ (s.voice.instr ≠ .plucked → t.words = s.words)
  | _ => t.words = s.words

theorem exec_wordsKept {i : Instr} {s t : State} (h : exec i s = .next t) : WordsKept i s t := by
  cases i with
  | sysReset => trivial
  | oscTblWr =>
    refine unitCommand_keeps_words WordSpaces.lines h ?_
    split <;> rfl
  | dlTick | dlClear => exact unitCommand_keeps_words WordSpaces.tables h rfl
  | vTick => exact voiceCommand_keeps_words WordSpaces.tables h (voiceTick_tables _)
  | vReset => exact voiceCommand_keeps_words WordSpaces.tables h (voiceReset_tables _)
  | vSetInstr id =>
    simp only [exec, execVSetInstr] at h
    refine command_keeps_words WordSpaces.tables h ?_
    split
    · exact selectInstrument_tables _ _
    · rfl
  | vNoteOn =>
    exact ⟨voiceCommand_keeps_words WordSpaces.tables h (noteOn_tables _ _ _),
      fun hp => voiceCommand_keeps_words id h (noteOn_words _ _ _ hp)⟩
  | sysNop => exact command_keeps_words (body := fun s => s) id h rfl
  | sysRdReg | vRdReg => exact command_keeps_words id h (answerReg_words _ _)
  | sysWrReg => exact command_keeps_words id h (sysWrite_words _ _ _)
  | dlLastOut | opSetPole | opSetGain | opTick | opClear | opLastOut | ozSetZero | ozSetGain | ozTick | ozClear
  | ozLastOut | pzSetA1 | pzSetB0 | pzSetB1 | pzSetBlockZero | pzTick | pzClear | pzLastOut | bqSetFreqReson
  | bqSetEqualGainZeroes | bqTick | bqClear | bqLastOut | bowSetOffset | bowSetSlope | bowTick | reedSetOffset
  | reedSetSlope | reedTick | jetTick | lipSetFreqReson | lipSetEqualGainZeroes | lipTick | lipClear | lipLastOut
  | envKeyOn | envKeyOff | envTick | adsrKeyOn | adsrKeyOff | adsrTick =>
    exact unitCommand_keeps_words id h rfl
  | dlRdReg | opRdReg | ozRdReg | pzRdReg | bqRdReg | bowRdReg | reedRdReg | jetRdReg | lipRdReg | envRdReg | adsrRdReg
  | nsRdReg | oscRdReg =>
    exact unitCommand_keeps_words id h (answerReg_words _ _)
  | dlBufRd | oscTblRd =>
    refine unitCommand_keeps_words id h ?_
    split <;> rfl
  | dlSetDelay => exact unitCommand_keeps_words id h (subDlSetDelay_words _ _ _)
  | bqSetCoef => exact unitCommand_keeps_words id h (subBqSetCoef_words _ _ _ _)
  | lipSetCoef => exact unitCommand_keeps_words id h (subLipSetCoef_words _ _ _ _)
  | envSetTarget => exact unitCommand_keeps_words id h (subEnvSetTarget_words _ _ _)
  | envSetValue => exact unitCommand_keeps_words id h (subEnvSetValue_words _ _ _)
  | envSetRate | adsrSetAttack | adsrSetDecay | adsrSetRelease | nsSeed =>
    exact unitCommand_keeps_words id h (raiseIf_words _ _ _)
  | adsrSetSustain =>
    refine unitCommand_keeps_words id h ?_
    split
    · rfl
    · exact raiseIf_words _ _ _
  | nsTick => exact unitCommand_keeps_words id h (subNsTick_words _ _)
  | oscSetFreq => exact unitCommand_keeps_words id h (subOscSetFreq_words _ _ _)
  | oscReset => exact unitCommand_keeps_words id h (subOscReset_words _ _)
  | oscTick => exact unitCommand_keeps_words id h (subOscTick_words (startCommand s) _)
  | vNoteOff => exact voiceCommand_keeps_words id h (noteOff_words _ _)
  | vSetFreq => exact voiceCommand_keeps_words id h (setFreq_words _ _)
  | vCc => exact voiceCommand_keeps_words id h (controlChange_words _ _ _)
  | vLastOut => exact voiceCommand_keeps_words id h rfl
  | vWrReg =>
    simp only [exec, execVWrReg] at h
    refine command_keeps_words id h ?_
    split <;> rfl

/-- Settles O22: the commands that may write a word space are those the statement leaves out. -/
theorem wordSpacesChangeByTheirCommandsOnly : Obligations.WordSpacesChangeByTheirCommandsOnly := by
  intro i s t h hreset
  have kept := exec_wordsKept h
  cases i with
  | sysReset => exact absurd rfl hreset
  | oscTblWr => exact ⟨fun hi => absurd rfl (hi _ _ _), fun _ _ _ _ _ _ => kept⟩
  | dlTick => exact ⟨fun _ => kept, fun hi => absurd rfl (hi _ _)⟩
  | dlClear => exact ⟨fun _ => kept, fun _ hi => absurd rfl (hi _)⟩
  | vTick => exact ⟨fun _ => kept, fun _ _ hi => absurd rfl hi⟩
  | vReset => exact ⟨fun _ => kept, fun _ _ _ hi => absurd rfl hi⟩
  | vSetInstr => exact ⟨fun _ => kept, fun _ _ _ _ hi => absurd rfl (hi _)⟩
  | vNoteOn =>
    obtain ⟨tables, unplucked⟩ := kept
    exact ⟨fun _ => tables, fun _ _ _ _ _ hi => congrArg WordSpaces.lines (unplucked fun hp => hi hp _ _ rfl)⟩
  | _ => exact ⟨fun _ => congrArg WordSpaces.tables kept, fun _ _ _ _ _ _ => congrArg WordSpaces.lines kept⟩

end Sys2Proof.Machine

/-! The decoder and the encoder (spec/30_encoding.md): what each column of the opcode map says of the commands of its
rows, when a packet decodes, and from these the round trips and the operand words that a command ignores. -/

namespace Sys2Proof

/-! ## Command words (R141) -/

theorem cmdUnit_lt (c : Word) : cmdUnit c < 256 := (c.extractLsb' 16 8).isLt

theorem cmdImm_lt (c : Word) : cmdImm c < 65536 := (c.extractLsb' 0 16).isLt

/-- A command word is its three fields and nothing else. -/
theorem cmdWord_fields (c : Word) : cmdWord (cmdOp c) (cmdUnit c) (cmdImm c) = c := by
  apply BitVec.eq_of_toNat_eq
  have := c.isLt
  simp only [toNat_cmdWord, cmdOp, cmdUnit, cmdImm, BitVec.extractLsb'_toNat, Nat.shiftRight_eq_div_pow]
  omega

/-! ## The rows of the opcode map (R149) -/

theorem opRow_mem {op : BitVec 8} {r : OpRow} (h : opRow op = some r) : r ∈ opcodeMap := List.mem_of_find?_eq_some h

theorem opRow_op {op : BitVec 8} {r : OpRow} (h : opRow op = some r) : r.op = op := by
  simpa using List.find?_some h

/-- Two readings of a row that agree down the whole opcode map agree at each of its rows. -/
theorem eq_of_rows {α : Type} {f g : OpRow → Nat → Nat → Word → Word → α} (rows : opcodeMap.map f = opcodeMap.map g)
    {r : OpRow} (hr : r ∈ opcodeMap) (unit imm : Nat) (a b : Word) : f r unit imm a b = g r unit imm a b := by
  rw [List.map_inj_left.mp rows r hr]

/-- The UNIT field that the row's command is written with. -/
def OpRow.writtenUnit (r : OpRow) (unit : Nat) : Nat :=
  match r.unit with
  | .selects => unit
  | .zero => 0

/-- The IMM field that the row's command is written with. -/
def OpRow.writtenImm (r : OpRow) (imm : Nat) : Nat :=
  match r.imm with
  | .used => imm
  | .zero => 0

/-- The fields that the row uses fit their place in the command word (R141). -/
def OpRow.fits (r : OpRow) (unit imm : Nat) : Bool :=
  match r.unit, r.imm with
  | .zero, .zero => true
  | .zero, .used => decide (immFits imm)
  | .selects, .zero => decide (unitFits unit)
  | .selects, .used => decide (unitFits unit) && decide (immFits imm)

/-- The opcodes of R149 whose row lists operand A. -/
def opsReadingA : List Nat :=
  [0x0F, 0x10, 0x11, 0x14, 0x20, 0x21, 0x22, 0x30, 0x31, 0x32, 0x40, 0x41, 0x42, 0x43, 0x44, 0x50, 0x52, 0x55,
    0x60, 0x61, 0x62, 0x70, 0x71, 0x72, 0x82, 0x90, 0x92, 0x95, 0xA0, 0xA1, 0xA2, 0xB0, 0xB1, 0xB2, 0xB3, 0xC0,
    0xD0, 0xD3, 0xE0, 0xE1, 0xE2, 0xE4, 0xEF]

/-- The opcodes of R149 whose row lists operand B. -/
def opsReadingB : List Nat := [0x50, 0x90, 0x92, 0xE0]

/-- An operand word, where the row of the opcode lists it. -/
def operandOf (readers : List Nat) (op : BitVec 8) (w : Word) : Word := if op.toNat ∈ readers then w else 0#32

theorem operandOf_of_not_mem {readers : List Nat} {op : BitVec 8} (h : op.toNat ∉ readers) (w : Word) :
    operandOf readers op w = 0#32 := if_neg h

section
variable {r : OpRow} (hr : r ∈ opcodeMap) (unit imm : Nat) (a b : Word)
include hr

theorem encode_command_cmd :
    (encode (r.command unit imm a b)).cmd = cmdWord r.op (r.writtenUnit unit) (r.writtenImm imm) :=
  eq_of_rows (f := fun r unit imm a b => (encode (r.command unit imm a b)).cmd)
    (g := fun r unit imm _ _ => cmdWord r.op (r.writtenUnit unit) (r.writtenImm imm)) rfl hr unit imm a b

theorem wf_command : (r.command unit imm a b).wf = r.fits unit imm :=
  eq_of_rows (f := fun r unit imm a b => (r.command unit imm a b).wf) (g := fun r unit imm _ _ => r.fits unit imm)
    rfl hr unit imm a b

/-- A row's command depends on the operand words that the row lists and on no other (R140). -/
theorem command_operandOf :
    r.command unit imm (operandOf opsReadingA r.op a) (operandOf opsReadingB r.op b) = r.command unit imm a b :=
  eq_of_rows (f := fun r unit imm a b =>
      r.command unit imm (operandOf opsReadingA r.op a) (operandOf opsReadingB r.op b))
    (g := OpRow.command) rfl hr unit imm a b

end

theorem OpRow.fits_of_lt (r : OpRow) {unit imm : Nat} (hu : unitFits unit) (hi : immFits imm) :
    r.fits unit imm = true := by
  unfold fits
  split <;> simp [hu, hi]

theorem OpRow.writtenUnit_of_zero {r : OpRow} {unit : Nat} (h : r.unit = .zero → unit = 0) :
    r.writtenUnit unit = unit := by
  unfold writtenUnit
  split
  · rfl
  · exact (h ‹_›).symm

theorem OpRow.writtenImm_of_zero {r : OpRow} {imm : Nat} (h : r.imm = .zero → imm = 0) : r.writtenImm imm = imm := by
  unfold writtenImm
  split
  · rfl
  · exact (h ‹_›).symm

/-! ## When a packet decodes (R148) -/

/-- A packet decodes to the command of its opcode's row, and only if the fields that the row leaves out are zero. -/
theorem decode_eq_ok_iff {p : Packet} {i : Instr} :
    decode p = .ok i ↔ ∃ r, opRow (cmdOp p.cmd) = some r ∧ (r.unit = .zero → cmdUnit p.cmd = 0) ∧
      (r.imm = .zero → cmdImm p.cmd = 0) ∧ r.command (cmdUnit p.cmd) (cmdImm p.cmd) p.a p.b = i := by
  unfold decode
  cases opRow (cmdOp p.cmd) with
  | none => simp
  | some r =>
    simp only [Option.some.injEq, exists_eq_left']
    split_ifs with hu hi
    · simp [hu]
    · simp [hi]
    · simp only [not_and_not_right] at hu hi
      simp only [Except.ok.injEq]
      exact ⟨fun h => ⟨hu, hi, h⟩, fun ⟨_, _, h⟩ => h⟩

/-- A command word with fields that fit, and zero where its row says so, decodes to its row's command. -/
theorem decode_cmdWord {op : BitVec 8} {unit imm : Nat} {a b : Word} {r : OpRow} {i : Instr} (hrow : opRow op = some r)
    (hu : unitFits unit) (hi : immFits imm) (hu0 : r.unit = .zero → unit = 0) (hi0 : r.imm = .zero → imm = 0)
    (hcmd : r.command unit imm a b = i) : decode ⟨cmdWord op unit imm, a, b⟩ = .ok i := by
  simp only [decode_eq_ok_iff, cmdOp_cmdWord, cmdUnit_cmdWord, cmdImm_cmdWord, Nat.mod_eq_of_lt hu, Nat.mod_eq_of_lt hi]
  exact ⟨r, hrow, hu0, hi0, hcmd⟩

/-- Settles O1: by the fields a command uses, its word decodes by the row of its opcode. -/
theorem decodeOfEncodeIsTheCommand : Obligations.DecodeOfEncodeIsTheCommand := by
  intro i h
  cases i with
  | sysNop | sysReset | vNoteOn | vNoteOff | vSetFreq | vTick | vReset | vLastOut =>
    exact decode_cmdWord rfl (by decide) (by decide) (fun _ => rfl) (fun _ => rfl) rfl
  | sysRdReg | sysWrReg | vCc | vSetInstr | vRdReg | vWrReg =>
    exact decode_cmdWord rfl (by decide) (of_decide_eq_true h) (fun _ => rfl) nofun rfl
  | dlRdReg | opRdReg | ozRdReg | pzRdReg | bqSetCoef | bqRdReg | bowRdReg | reedRdReg | jetRdReg | lipSetCoef
  | lipRdReg | envRdReg | adsrRdReg | nsRdReg | oscTblWr | oscTblRd | oscRdReg =>
    obtain ⟨hu, hi⟩ := Bool.and_eq_true_iff.mp h
    exact decode_cmdWord rfl (of_decide_eq_true hu) (of_decide_eq_true hi) nofun nofun rfl
  | _ => exact decode_cmdWord rfl (of_decide_eq_true h) (by decide) nofun (fun _ => rfl) rfl

/-- Settles O2: the row's command is written with the fields that the packet has. -/
theorem decodedCommandKeepsItsWord : Obligations.DecodedCommandKeepsItsWord := by
  intro p i h
  obtain ⟨r, hrow, hu, hi, rfl⟩ := decode_eq_ok_iff.mp h
  have hr := opRow_mem hrow
  constructor
  · rw [WellFormed, wf_command hr]
    exact r.fits_of_lt (cmdUnit_lt _) (cmdImm_lt _)
  · rw [encode_command_cmd hr, opRow_op hrow, OpRow.writtenUnit_of_zero hu, OpRow.writtenImm_of_zero hi, cmdWord_fields]

/-! ## Operand words that a command ignores (R140) -/

/-- The decoder drops the operand words that the row does not list. -/
theorem decode_operandOf (c a b : Word) :
    decode ⟨c, operandOf opsReadingA (cmdOp c) a, operandOf opsReadingB (cmdOp c) b⟩ = decode ⟨c, a, b⟩ := by
  unfold decode
  cases hrow : opRow (cmdOp c) with
  | none => rfl
  | some r => simp only [← opRow_op hrow, command_operandOf (opRow_mem hrow)]

/-- Settles O5: two packets that differ in a dropped word only decode alike. -/
theorem unusedOperandWordsAreIgnored : Obligations.UnusedOperandWordsAreIgnored := by
  intro c a a' b b' s op
  have same {p q : Packet} (h : decode p = decode q) : Machine.runPacket p s = Machine.runPacket q s := by
    simp only [Machine.runPacket, h]
  refine ⟨fun hop => same ?_, fun hop => same ?_⟩
  · have hop : (cmdOp c).toNat ∉ opsReadingB := hop
    rw [← decode_operandOf, ← decode_operandOf c a b', operandOf_of_not_mem hop, operandOf_of_not_mem hop]
  · have hop : (cmdOp c).toNat ∉ opsReadingA := hop
    rw [← decode_operandOf, ← decode_operandOf c a' b, operandOf_of_not_mem hop, operandOf_of_not_mem hop]

/-- Settles O3: each word evaluated by the decoder. -/
theorem sampleWordsDecode : Obligations.SampleWordsDecode :=
  ⟨rfl, rfl, rfl, rfl, rfl, rfl, rfl, rfl, rfl, rfl, rfl, rfl, rfl, rfl, rfl, rfl, rfl⟩

end Sys2Proof

/-! Packets at the port (spec/30_encoding.md R145 to R150): the unit class of an opcode, the packets that are refused,
the step that a packet is, and the cycles that it takes. -/

namespace Sys2Proof.Machine

/-! ## An accepted packet (R148) -/

theorem runPacket_of_ok {p : Packet} {i : Instr} (h : decode p = .ok i) (s : State) : runPacket p s = exec i s := by
  simp only [runPacket, h]

theorem runPacket_of_error {p : Packet} {e : Reject} (h : decode p = .error e) (s : State) :
    runPacket p s = .next (respond 0#32 [.illegal] s) := by
  simp only [runPacket, h, command_eq, endCommand_refuse]

/-! ## The class of an opcode (R143) -/

/-- The unit classes by the upper four bits of the opcode; none for SYS and VOICE. -/
def opClasses : List (Option UnitClass) :=
  [none, some .dl, some .op, some .oz, some .pz, some .bq, some .bow, some .reed, some .jet, some .lip, some .env,
    some .adsr, some .ns, some .osc, none]

/-- The class whose units an opcode's command works on. -/
def classOf (op : BitVec 8) : Option UnitClass := (opClasses[op.toNat / 16]?).join

/-- The number of units in a class; SYS and VOICE count as one unit. -/
def classCount (s : State) : Option UnitClass → Nat
  | none => 1
  | some cls => unitCount s cls

theorem target_command {r : OpRow} (hr : r ∈ opcodeMap) (unit imm : Nat) (a b : Word) :
    target (r.command unit imm a b) = (classOf r.op).map (·, unit) :=
  eq_of_rows (f := fun r unit imm a b => target (r.command unit imm a b))
    (g := fun r unit _ _ _ => (classOf r.op).map (·, unit)) rfl hr unit imm a b

theorem unit_eq_zero_of_classOf : ∀ r ∈ opcodeMap, classOf r.op = none → r.unit = .zero := by decide

/-! ## Illegal packets (R150) -/

/-- A command on a unit that its class does not have is refused (spec/60_exceptions.md R533). -/
theorem exec_of_unitCount_le {i : Instr} {s : State} {cls : UnitClass} {unit : Nat} (ht : target i = some (cls, unit))
    (hu : unitCount s cls ≤ unit) : exec i s = .next (respond 0#32 [.illegal] s) := by
  cases i with
  | sysNop | sysReset | sysRdReg | sysWrReg | vNoteOn | vNoteOff | vSetFreq | vTick | vCc | vSetInstr | vReset
  | vLastOut | vRdReg | vWrReg => cases ht
  | _ =>
    cases ht
    exact command_onUnit_ge hu _ s

/-- The opcodes of R149 whose row leaves IMM out. -/
def opsWithoutImm : List Nat :=
  [0x00, 0x01, 0x10, 0x11, 0x12, 0x13, 0x14, 0x20, 0x21, 0x22, 0x23, 0x24, 0x30, 0x31, 0x32, 0x33,
    0x34, 0x40, 0x41, 0x42, 0x43, 0x44, 0x45, 0x46, 0x50, 0x51, 0x52, 0x53, 0x54, 0x60, 0x61, 0x62, 0x70, 0x71, 0x72,
    0x82, 0x90, 0x91, 0x92, 0x93, 0x94, 0xA0, 0xA1, 0xA2, 0xA3, 0xA4, 0xA5, 0xB0, 0xB1, 0xB2, 0xB3, 0xB4, 0xB5, 0xB6,
    0xC0, 0xC1, 0xD0, 0xD1, 0xD2, 0xE0, 0xE1, 0xE2, 0xE3, 0xE6, 0xE7]

/-- The opcodes of R149 whose row uses IMM. -/
def opsWithImm : List Nat :=
  [0x0E, 0x0F, 0x1E, 0x2E, 0x3E, 0x4E, 0x55, 0x5E, 0x6E, 0x7E, 0x8E, 0x95, 0x9E, 0xAE, 0xBE, 0xCE, 0xD3,
    0xD4, 0xDE, 0xE4, 0xE5, 0xEE, 0xEF]

theorem op_mem_of_row : ∀ r ∈ opcodeMap, r.op.toNat ∈ opsWithoutImm ++ opsWithImm := by decide

theorem imm_eq_zero_of_row : ∀ r ∈ opcodeMap, r.op.toNat ∈ opsWithoutImm → r.imm = .zero := by decide

/-- A packet whose UNIT is at or above the count of its opcode's class is refused: SYS and VOICE rows take UNIT 0 only,
and a command of another class checks its unit. -/
theorem runPacket_of_classCount_le {p : Packet} {i : Instr} {s : State} (hd : decode p = .ok i)
    (hu : classCount s (classOf (cmdOp p.cmd)) ≤ cmdUnit p.cmd) :
    runPacket p s = .next (respond 0#32 [.illegal] s) := by
  rw [runPacket_of_ok hd]
  obtain ⟨r, hrow, hu0, -, rfl⟩ := decode_eq_ok_iff.mp hd
  have hr := opRow_mem hrow
  rw [← opRow_op hrow] at hu
  cases hcls : classOf r.op with
  | none =>
    rw [hcls, hu0 (unit_eq_zero_of_classOf r hr hcls)] at hu
    exact absurd hu (Nat.not_succ_le_zero 0)
  | some cls =>
    rw [hcls] at hu
    exact exec_of_unitCount_le ((target_command hr _ _ _ _).trans (by rw [hcls]; rfl)) hu

/-- Settles O4: a packet that decodes has a listed opcode and the fields of its row, so only its unit can be illegal. -/
theorem illegalPacketsAreRefused : Obligations.IllegalPacketsAreRefused := by
  intro p s op unit imm withoutImm withImm counts illegal
  cases hd : decode p with
  | error e => exact runPacket_of_error hd s
  | ok i =>
    obtain ⟨r, hrow, -, hi0, -⟩ := decode_eq_ok_iff.mp hd
    have hr := opRow_mem hrow
    have hop : r.op.toNat = op := congrArg BitVec.toNat (opRow_op hrow)
    rcases illegal with hop' | ⟨n, hn, hu⟩ | ⟨hop', hi⟩
    · exact absurd (hop ▸ op_mem_of_row r hr) hop'
    · have hcounts : counts = opClasses.map (classCount s) := rfl
      rw [hcounts, List.getElem?_map, Option.map_eq_some_iff] at hn
      obtain ⟨cls, hcls, rfl⟩ := hn
      have hclass : classOf (cmdOp p.cmd) = cls := congrArg Option.join hcls
      exact runPacket_of_classCount_le hd (hclass ▸ hu)
    · exact absurd (hi0 (imm_eq_zero_of_row r hr (hop ▸ hop'))) hi

/-! ## The step (R147) -/

/-- Settles O6: each clause is the step of that event. -/
theorem stepRunsTheDecodedCommand : Obligations.StepRunsTheDecodedCommand := by
  intro s p es
  refine ⟨fun i h hd => ⟨(decodedCommandKeepsItsWord p i hd).1, ?_⟩, fun e h hd => ?_, step_nil, step_idle,
    fun h => h.elim step_rst step_abandoned⟩
  · rw [step_command h, runPacket_of_ok hd]
  · rw [step_command h, runPacket_of_error hd]

/-! ## The clocked port (R145, R146) -/

/-- The inputs of an edge at which the host offers a packet. -/
def offering (p : Packet) : PortIn := { rst := false, cmdValid := true, packet := p }

section
variable (c : Clocked) (p : Packet)

theorem clockEdge_offering (hready : c.phase = .ready) : clockEdge (offering p) c = accept c p := by
  simp [clockEdge, offering, hready]

theorem clockEdge_responding {i : PortIn} (hc : c.phase = .responding) (hrst : i.rst = false) :
    clockEdge i c = { c with block := idleCycle c.block, phase := .ready } := by
  simp [clockEdge, hc, hrst]

/-- An edge brings a command in execution one cycle nearer to its response, whatever is offered meanwhile. -/
theorem clockEdge_advance {i : PortIn} (hrst : i.rst = false) (left : Nat) :
    clockEdge i (advance c p (left + 1)) = advance c p left := by
  cases left <;> simp [clockEdge, advance, hrst]

theorem clockEdges_advance {js : List PortIn} (hrst : ∀ j ∈ js, j.rst = false) (left : Nat) :
    clockEdges js (advance c p (left + js.length)) = advance c p left := by
  induction js with
  | nil => rfl
  | cons j js ih =>
    obtain ⟨hj, hjs⟩ := List.forall_mem_cons.mp hrst
    rw [clockEdges, List.length_cons, ← Nat.add_assoc, clockEdge_advance c p hj, ih hjs]

theorem clockEdges_append (is js : List PortIn) : clockEdges (is ++ js) c = clockEdges js (clockEdges is c) := by
  induction is generalizing c with
  | nil => rfl
  | cons i is ih => exact ih _

/-- A packet accepted and then some edges without `rst`: as many cycles are left as LAT less one exceeds those edges. -/
theorem clockEdges_offering {js : List PortIn} {left : Nat} (hready : c.phase = .ready) (hrst : ∀ j ∈ js, j.rst = false)
    (hlat : left + js.length = Config.latencyLessOne c.served) :
    clockEdges (offering p :: js) c = advance { c with served := c.served + 1 } p left := by
  rw [clockEdges, clockEdge_offering c p hready, accept, ← hlat, clockEdges_advance _ p hrst]

end

/-- Settles O8: the response stands where no cycle is left, and before it the command is in execution. -/
theorem acceptedPacketAnswersOnceAfterLatency : Obligations.AcceptedPacketAnswersOnceAfterLatency := by
  intro c p t ins i hready hrun hins hi hlat start
  have answered : clockEdges (start :: ins) c = { block := t, phase := .responding, served := c.served + 1 } := by
    refine (clockEdges_offering c p (left := 0) hready hins (by omega)).trans ?_
    simp only [advance, served, hrun]
  have waiting {k : Nat} (hk : k < ins.length) : ∃ left,
      clockEdges (start :: ins.take k) c = { block := c.block, phase := .busy p left, served := c.served + 1 } := by
    have hlen : (ins.take k).length = k := List.length_take_of_le hk.le
    exact ⟨ins.length - k - 1, clockEdges_offering c p (left := ins.length - k - 1 + 1) hready
      (fun j hj => hins j (List.mem_of_mem_take hj)) (by omega)⟩
  have released : clockEdges (start :: (ins ++ [i])) c =
      { block := idleCycle t, phase := .ready, served := c.served + 1 } := by
    rw [← List.cons_append, clockEdges_append, answered, clockEdges, clockEdge_responding _ rfl hi]
    rfl
  refine ⟨answered, fun k hk => ?_, ?_⟩
  · obtain ⟨left, h⟩ := waiting hk
    rw [h]
    exact ⟨rfl, rfl, rfl⟩
  · rw [answered, released]
    exact ⟨rfl, rfl, rfl, rfl, rfl⟩

end Sys2Proof.Machine

/-! SUPPORT. Exact values: the words that have a given value, the results that need no rounding, the integer part and the
fraction (spec/00_scope.md R18, R20), and sums and products with a zero. -/

namespace Sys2Proof.Machine

/-! ## Words of a given value -/

/-- A significand of 24 bits at any scale is the value of a magnitude: below 24 bits it doubles to a smaller scale. -/
theorem exists_magUnits_eq {n : Nat} (hn : n ≤ 16777216) (s : Nat) : ∃ m, magUnits m = n * 2 ^ s := by
  induction s generalizing n with
  | zero => exact ⟨_, magUnits_significand (.inl rfl) hn⟩
  | succ s ih =>
    by_cases h : 8388608 ≤ n
    · exact ⟨_, magUnits_significand (.inr h) hn⟩
    · obtain ⟨m, hm⟩ := ih (n := 2 * n) (by omega)
      exact ⟨m, by rw [hm, pow_succ]; ring⟩

/-- A significand of 24 bits at any scale below the infinity is the value of a finite word. -/
theorem exists_word {n s : Nat} (hn : n ≤ 16777216) (hs : n * 2 ^ s < magUnits infMag) :
    ∃ z, fFinite z ∧ fVal z = ((n * 2 ^ s : Nat) : ℚ) / 2 ^ 149 := by
  obtain ⟨m, hm⟩ := exists_magUnits_eq hn s
  have finite : m < infMag := by
    rwa [← magUnits_strictMono.lt_iff_lt, hm]
  have mag : fMag (packMag false m) = m := by rw [fMag_packMag, min_eq_left finite.le]
  exact ⟨packMag false m, by rwa [fFinite, mag], by rw [fVal_eq, fNeg_packMag, mag, hm]; simp⟩

section
variable {e : ℚ} {r x y z : F32}

/-- The rounding of a finite value is that value. -/
theorem Rounded.exact (h : Rounded (fVal z) r) (hz : fFinite z) : fFinite r ∧ fVal r = fVal z := by
  unfold Rounded at h
  rw [if_pos (abs_fVal_of_finite hz)] at h
  obtain ⟨finite, near, -⟩ := h
  have := near z hz
  rw [sub_self, abs_zero] at this
  exact ⟨finite, sub_eq_zero.mp (abs_nonpos_iff.mp this)⟩

/-- A count of units with 24 significant bits is converted exactly. -/
theorem roundQuot_exact {n s : Nat} (hn : n ≤ 16777216) (hs : n * 2 ^ s < magUnits infMag) :
    fFinite (roundQuot false (n * 2 ^ s) 1) ∧
    fVal (roundQuot false (n * 2 ^ s) 1) = ((n * 2 ^ s : Nat) : ℚ) / 2 ^ 149 := by
  obtain ⟨z, finite, value⟩ := exists_word hn hs
  have rounded := rounded_roundQuot (num := n * 2 ^ s) false Nat.one_pos
  rw [if_neg Bool.false_ne_true, one_mul, Nat.cast_one, div_one, ← value] at rounded
  rw [← value]
  exact rounded.exact finite

/-- In [0.0, 1.0] the words stand no further apart than 2^-24. -/
theorem Rounded.abs_sub_le (h : Rounded e r) (h0 : 0 ≤ e) (h1 : e ≤ 1) : |fVal r - e| ≤ 1 / 2 ^ 25 := by
  have near := abs_sub_round (e * 2 ^ 24)
  obtain ⟨j, hj⟩ : ∃ j : Nat, round (e * 2 ^ 24) = j := by
    refine Int.eq_ofNat_of_zero_le ?_
    rw [round_eq]
    exact Int.floor_nonneg.mpr (by positivity)
  rw [hj, Int.cast_natCast] at near
  have hj_le : j ≤ 16777216 := by
    have : (j : ℚ) < 16777217 := by linarith [(abs_le.mp near).1]
    exact Nat.lt_succ_iff.mp (by exact_mod_cast this)
  obtain ⟨z, hz, value⟩ := exists_word (s := 125) hj_le ((Nat.mul_le_mul_right _ hj_le).trans_lt (by decide))
  have value' : fVal z = j / 2 ^ 24 := by
    rw [value]
    push_cast
    ring
  have dist : |fVal z - e| ≤ 1 / 2 ^ 25 := by
    rw [abs_le] at near ⊢
    rw [value']
    constructor <;> linarith
  unfold Rounded at h
  rw [if_pos (by rw [abs_of_nonneg h0]; norm_num; linarith)] at h
  exact (h.2.1 z hz).trans dist

theorem Rounded.inUnit (h : Rounded e r) (h0 : 0 ≤ e) (h1 : e ≤ 1) : inUnit r = true := by
  have low := h.ge (z := fZero) (by decide) (by rwa [fVal_fZero])
  have high := h.le (z := fOne) (by decide) (by rwa [fVal_fOne])
  exact inUnit_iff.mpr ⟨h.not_nan, by rwa [fVal_fZero] at low, by rwa [fVal_fOne] at high⟩

/-- The complement of a weight is a weight. -/
theorem inUnit_fsub_fOne (hx : inUnit x = true) : inUnit (fsub fOne x) = true := by
  obtain ⟨-, h0, h1⟩ := inUnit_iff.mp hx
  have rounded := rounded_fsub (x := fOne) (by decide) (fFinite_of_inUnit hx)
  rw [fVal_fOne] at rounded
  exact rounded.inUnit (by linarith) (by linarith)

/-- The largest value below 1.0. -/
theorem fVal_le_of_lt_one (h : fVal x < 1) : fVal x ≤ 1 - 1 / 2 ^ 24 := by
  have pred : fVal 0x3F7FFFFF#32 = 1 - 1 / 2 ^ 24 := by
    rw [fVal, show signedScaled 0x3F7FFFFF#32 = 16777215 * 2 ^ 125 by decide]
    norm_num
  rw [← fVal_fOne, ← fKey_lt_iff_fVal] at h
  rw [← pred, ← not_lt, ← fKey_lt_iff_fVal]
  have one : fKey fOne = fKey 0x3F7FFFFF#32 + 1 := by decide
  omega

theorem feq_iff_fVal : feq x y = true ↔ isNaN x = false ∧ isNaN y = false ∧ fVal x = fVal y := by
  have lt := fKey_lt_iff_fVal (x := x) (y := y)
  have gt := fKey_lt_iff_fVal (x := y) (y := x)
  have key : fKey x = fKey y ↔ fVal x = fVal y := by
    rw [eq_iff_le_not_lt, eq_iff_le_not_lt, ← not_lt, lt, gt, not_lt]
  simp [feq, key, and_assoc]

theorem feq_of_fVal_eq (hx : fFinite x) (hy : fFinite y) (h : fVal x = fVal y) : feq x y = true :=
  feq_iff_fVal.mpr ⟨not_nan_of_finite hx, not_nan_of_finite hy, h⟩

theorem feq_trans (hxy : feq x y = true) (hyz : feq y z = true) : feq x z = true := by
  obtain ⟨hx, -, hxy⟩ := feq_iff_fVal.mp hxy
  obtain ⟨-, hz, hyz⟩ := feq_iff_fVal.mp hyz
  exact feq_iff_fVal.mpr ⟨hx, hz, hxy.trans hyz⟩

/-! ## The integer part and the fraction -/

theorem fVal_eq_scaled (h0 : 0 ≤ fVal x) : fVal x = scaled x / unitScale := by
  rw [← abs_of_nonneg h0, abs_fVal, scaled_eq_magUnits, unitScale]
  norm_num

theorem ffloor_eq (hx : fFinite x) (h0 : 0 ≤ fVal x) : ffloor x = scaled x / unitScale := by
  refine if_pos ⟨hx, ?_⟩
  cases hneg : fNeg? x with
  | false => exact .inl rfl
  | true => exact .inr (fVal_eq_zero.mp ((fVal_nonpos hneg).antisymm h0))

/-- `floor` is the integer part of the value (spec/00_scope.md R20). -/
theorem ffloor_eq_floor (hx : fFinite x) (h0 : 0 ≤ fVal x) : (ffloor x : ℤ) = ⌊fVal x⌋ := by
  rw [ffloor_eq hx h0, fVal_eq_scaled h0]
  exact (Rat.floor_natCast_div_natCast _ _).symm

theorem exists_significand (x : F32) : ∃ n s, n < 16777216 ∧ scaled x = n * 2 ^ s := by
  rw [scaled_eq_magUnits]
  obtain h | ⟨s, f, hf, h⟩ := magnitude_cases (fMag x)
  · exact ⟨fMag x, 0, by omega, by rw [magUnits_subnormal h, pow_zero, mul_one]⟩
  · exact ⟨8388608 + f, s, by omega, by rw [h, magUnits_binade hf]⟩

/-- What is left of a significand below a power of two has no more bits. -/
theorem exists_significand_mod {n s k : Nat} (hn : n < 16777216) :
    ∃ m, m < 16777216 ∧ n * 2 ^ s % 2 ^ k = m * 2 ^ s := by
  by_cases hs : s ≤ k
  · refine ⟨n % 2 ^ (k - s), (Nat.mod_le _ _).trans_lt hn, ?_⟩
    rw [← Nat.mul_mod_mul_right, ← pow_add, Nat.sub_add_cancel hs]
  · refine ⟨0, by omega, ?_⟩
    rw [Nat.zero_mul]
    exact Nat.mod_eq_zero_of_dvd ((pow_dvd_pow 2 (by omega)).mul_left n)

/-- `frac` is exact (spec/00_scope.md R20). -/
theorem ffrac_exact (h0 : 0 ≤ fVal x) : fFinite (ffrac x) ∧ fVal (ffrac x) = Int.fract (fVal x) := by
  obtain ⟨n, s, hn, hx⟩ := exists_significand x
  obtain ⟨m, hm, hmod⟩ := exists_significand_mod (s := s) (k := 149) hn
  have units : scaled x % unitScale = m * 2 ^ s := by rw [hx, unitScale, hmod]
  have lt : m * 2 ^ s < magUnits infMag :=
    hmod ▸ (Nat.mod_lt _ (Nat.two_pow_pos 149)).trans (by decide)
  obtain ⟨finite, value⟩ := roundQuot_exact hm.le lt
  rw [← units] at finite value
  refine ⟨finite, ?_⟩
  rw [ffrac, value, fVal_eq_scaled h0, Int.fract_div_natCast_eq_div_natCast_mod, unitScale, Nat.cast_pow, Nat.cast_two]

/-- An integer of 24 bits is converted exactly. -/
theorem fOfNat_exact {n : Nat} (hn : n ≤ 16777216) : fFinite (fOfNat n) ∧ fVal (fOfNat n) = n := by
  obtain ⟨finite, value⟩ := roundQuot_exact (s := 149) hn ((Nat.mul_le_mul_right _ hn).trans_lt (by decide))
  refine ⟨finite, value.trans ?_⟩
  rw [Nat.cast_mul, Nat.cast_pow, Nat.cast_two, mul_div_cancel_right₀ _ (by positivity)]

end

/-! ## Sums and products with a zero -/

section
variable {x y : F32}

theorem fVal_fadd_zero_left (hx : fFinite x) (hy : fFinite y) (hx0 : fVal x = 0) :
    fFinite (fadd x y) ∧ fVal (fadd x y) = fVal y := by
  have sum := rounded_fadd hx hy
  rw [hx0, zero_add] at sum
  exact sum.exact hy

theorem fVal_fadd_zero_right (hx : fFinite x) (hy : fFinite y) (hy0 : fVal y = 0) :
    fFinite (fadd x y) ∧ fVal (fadd x y) = fVal x := by
  have sum := rounded_fadd hx hy
  rw [hy0, add_zero] at sum
  exact sum.exact hx

theorem fVal_fmul_one (hx : fFinite x) (hy : fFinite y) (hx1 : fVal x = 1) :
    fFinite (fmul x y) ∧ fVal (fmul x y) = fVal y := by
  have product := rounded_fmul hx hy
  rw [hx1, one_mul] at product
  exact product.exact hy

theorem fVal_fmul_zero (hx : fFinite x) (hy : fFinite y) (h : fVal x = 0 ∨ fVal y = 0) :
    fFinite (fmul x y) ∧ fVal (fmul x y) = 0 := by
  have product := rounded_fmul hx hy
  rw [mul_eq_zero.mpr h, ← fVal_fZero] at product
  rw [← fVal_fZero]
  exact product.exact (by decide)

/-- A weight in [0.0, 1.0] leaves a finite sample finite. -/
theorem fFinite_fmul_of_inUnit (hx : inUnit x = true) (hy : fFinite y) : fFinite (fmul x y) := by
  obtain ⟨-, h0, h1⟩ := inUnit_iff.mp hx
  have product := rounded_fmul (fFinite_of_inUnit hx) hy
  have exact_le : |fVal x * fVal y| ≤ |fVal y| := by
    rw [abs_mul, abs_of_nonneg h0]
    exact mul_le_of_le_one_left (abs_nonneg _) h1
  unfold Rounded at product
  rw [if_pos (exact_le.trans_lt (abs_fVal_of_finite hy))] at product
  exact product.1

end

end Sys2Proof.Machine

/-! The pointer invariant of the delay lines (spec/40_delay_line.md R206): the pointers modulo the length, the delay in
effect and its weights (R200), and what each move of a line leaves of them. -/

namespace Sys2Proof.Machine

/-! ## Pointers modulo the length -/

theorem cast_backFrom {len : Nat} (hlen : 0 < len) (w n : Nat) :
    (backFrom len w n : ℤ) = ((w : ℤ) - n) % len := by
  have hlt := (Nat.mod_lt n hlen).le
  unfold backFrom
  push_cast [Nat.cast_sub hlt]
  rw [add_sub_assoc', Int.sub_emod, Int.emod_emod, ← Int.sub_emod, add_sub_right_comm, Int.add_emod_right]

theorem cast_pointerGap {d : DelayLine} (hd : lineSound d) :
    (pointerGap d : ℤ) = ((d.wptr : ℤ) - d.rptr) % d.len := by
  obtain ⟨-, -, hr, -⟩ := hd
  unfold pointerGap
  push_cast [Nat.cast_sub (hr.le.trans (Nat.le_add_left _ _))]
  rw [add_sub_right_comm, Int.add_emod_right]

theorem pointerGap_dlTick {d : DelayLine} (hd : lineSound d) (x : F32) : pointerGap (dlTick d x) = pointerGap d := by
  have gap : (pointerGap (dlTick d x) : ℤ) = pointerGap d := by
    rw [cast_pointerGap ((LineMove.tick x).sound hd), cast_pointerGap hd]
    simp only [dlTick]
    push_cast
    rw [← Int.sub_emod, add_sub_add_right_eq_sub]
  exact_mod_cast gap

/-- RPTR set back by a number of words below the length stands that far behind WPTR. -/
theorem pointerGap_dlSetDelay {d : DelayLine} (hd : lineSound d) (lag : F32)
    (hback : dlBack (dlLag d.len lag) < d.len) : pointerGap (dlSetDelay d lag) = dlBack (dlLag d.len lag) := by
  have gap := cast_pointerGap ((LineMove.setDelay lag).sound hd)
  obtain ⟨⟨hlen, -⟩, -⟩ := hd
  simp only [dlSetDelay, cast_backFrom (len := d.len) hlen] at gap
  rw [Int.sub_emod, Int.emod_emod, ← Int.sub_emod, sub_sub_cancel, Int.emod_eq_of_lt (by omega) (by omega)] at gap
  exact_mod_cast gap

/-! ## The delay in effect (spec/40_delay_line.md R200) -/

/-- A delay that a line of the length can hold. -/
structure HeldLag (len : Nat) (lag : F32) : Prop where
  finite : fFinite lag
  nonneg : 0 ≤ fVal lag
  le : fVal lag ≤ (len : ℚ) - 1

section
variable {len : Nat} {x : F32}

theorem dlMax_exact (h1 : 1 ≤ len) (h : len ≤ 16777216) : fFinite (dlMax len) ∧ fVal (dlMax len) = (len : ℚ) - 1 := by
  have exact := fOfNat_exact (n := len - 1) (by omega)
  rwa [Nat.cast_pred h1] at exact

theorem heldLag_dlMax (h1 : 1 ≤ len) (h : len ≤ 16777216) : HeldLag len (dlMax len) := by
  obtain ⟨finite, value⟩ := dlMax_exact h1 h
  have h1' : (1 : ℚ) ≤ len := by exact_mod_cast h1
  exact ⟨finite, by rw [value]; linarith, value.le⟩

theorem heldLag_of_zero (h1 : 1 ≤ len) (hx : fMag x = 0) : HeldLag len x := by
  have value := fVal_eq_zero.mpr hx
  have h1' : (1 : ℚ) ≤ len := by exact_mod_cast h1
  exact ⟨by rw [fFinite, hx]; decide, value.ge, by rw [value]; linarith⟩

/-- A delay not below 0.0 and not above the largest one is one the line can hold. -/
theorem heldLag_of_fle (h1 : 1 ≤ len) (h : len ≤ 16777216) (hlow : fle fZero x = true)
    (hhigh : fle x (dlMax len) = true) : HeldLag len x := by
  obtain ⟨finite, -⟩ := dlMax_exact h1 h
  obtain ⟨-, hn, h0⟩ := fle_iff_fVal.mp hlow
  obtain ⟨-, -, hle⟩ := fle_iff_fVal.mp hhigh
  rw [fVal_fZero] at h0
  have hmax := (abs_lt.mp (abs_fVal_of_finite finite)).2
  exact ⟨finite_of_abs_fVal_lt hn (by rw [abs_of_nonneg h0]; linarith), h0, hle.trans (heldLag_dlMax h1 h).le⟩

theorem dlLagOut_of_held (h1 : 1 ≤ len) (h : len ≤ 16777216) (hx : HeldLag len x) : dlLagOut len x = false := by
  obtain ⟨finite, nonneg, le⟩ := hx
  obtain ⟨-, max⟩ := dlMax_exact h1 h
  have low : ¬ flt x fZero = true := by simp [flt_iff_fVal, nonneg]
  have high : ¬ flt (dlMax len) x = true := by simp [flt_iff_fVal, max, le]
  simp [dlLagOut, not_nan_of_finite finite, low, high]

theorem dlLagOut_of_nan_or_neg (h : isNaN x = true ∨ flt x fZero = true) : dlLagOut len x = true := by
  rcases h with h | h <;> simp [dlLagOut, h]

theorem dlLagOut_of_above (h : flt (dlMax len) x = true) : dlLagOut len x = true := by
  simp [dlLagOut, h]

theorem dlLag_of_zero (hx : fMag x = 0) : dlLag len x = fZero := by
  have hn : isNaN x = false := not_nan_of_finite (by rw [hx]; decide)
  exact if_pos (feq_iff_fVal.mpr ⟨hn, isNaN_fZero, by rw [fVal_fZero, fVal_eq_zero.mpr hx]⟩)

theorem dlLag_of_nan_or_neg (hx : isNaN x = true ∨ flt x fZero = true) : dlLag len x = fZero := by
  have low : (isNaN x || flt x fZero) = true := by simpa using hx
  rw [dlLag, if_pos low, ite_self]

theorem dlLag_of_above (h1 : 1 ≤ len) (h : len ≤ 16777216) (hx : flt (dlMax len) x = true) :
    dlLag len x = dlMax len := by
  obtain ⟨-, hn, hlt⟩ := flt_iff_fVal.mp hx
  have pos : 0 < fVal x := (heldLag_dlMax h1 h).nonneg.trans_lt hlt
  have nonzero : ¬ feq x fZero = true := by simp [feq_iff_fVal, pos.ne']
  have low : ¬ flt x fZero = true := by simp [flt_iff_fVal, pos.le]
  simp [dlLag, nonzero, hn, low, hx]

theorem dlLag_of_held (h1 : 1 ≤ len) (h : len ≤ 16777216) (hx : HeldLag len x) (h0 : fMag x ≠ 0) :
    dlLag len x = x := by
  obtain ⟨finite, nonneg, le⟩ := hx
  obtain ⟨-, max⟩ := dlMax_exact h1 h
  have nonzero : ¬ feq x fZero = true := by simp [feq_iff_fVal, fVal_eq_zero, h0]
  have low : ¬ flt x fZero = true := by simp [flt_iff_fVal, nonneg]
  have high : ¬ flt (dlMax len) x = true := by simp [flt_iff_fVal, max, le]
  simp [dlLag, nonzero, not_nan_of_finite finite, low, high]

/-- A delay that the line can hold is in effect as it is, but for the sign of a zero. -/
theorem fVal_dlLag_of_held (h1 : 1 ≤ len) (h : len ≤ 16777216) (hx : HeldLag len x) :
    fVal (dlLag len x) = fVal x := by
  by_cases h0 : fMag x = 0
  · rw [dlLag_of_zero h0, fVal_fZero, fVal_eq_zero.mpr h0]
  · rw [dlLag_of_held h1 h hx h0]

/-- The delay in effect is one the line can hold, whatever was asked for. -/
theorem heldLag_dlLag (h1 : 1 ≤ len) (h : len ≤ 16777216) (x : F32) : HeldLag len (dlLag len x) := by
  by_cases hlow : isNaN x = true ∨ flt x fZero = true
  · rw [dlLag_of_nan_or_neg hlow]
    exact heldLag_of_zero h1 rfl
  by_cases hhigh : flt (dlMax len) x = true
  · rw [dlLag_of_above h1 h hhigh]
    exact heldLag_dlMax h1 h
  by_cases h0 : fMag x = 0
  · rw [dlLag_of_zero h0]
    exact heldLag_of_zero h1 rfl
  rw [not_or, Bool.not_eq_true] at hlow
  obtain ⟨hn, hlow⟩ := hlow
  have hmax := not_nan_of_finite (dlMax_exact h1 h).1
  have held : HeldLag len x := heldLag_of_fle h1 h
    (fle_iff_fVal.mpr ⟨isNaN_fZero, hn, fVal_le_of_not_flt hn isNaN_fZero hlow⟩)
    (fle_iff_fVal.mpr ⟨hn, hmax, fVal_le_of_not_flt hmax hn hhigh⟩)
  rwa [dlLag_of_held h1 h held h0]

/-! ## The weights -/

/-- A delay of whole samples. -/
abbrev wholeLag (x : F32) : Prop := fVal x = (⌊fVal x⌋ : ℚ)

theorem feq_ffrac_iff (h0 : 0 ≤ fVal x) : feq (ffrac x) fZero = true ↔ wholeLag x := by
  obtain ⟨finite, value⟩ := ffrac_exact h0
  rw [feq_iff_fVal, value, fVal_fZero, Int.fract, sub_eq_zero]
  simp [not_nan_of_finite finite]

theorem dlBack_eq (hx : HeldLag len x) : (dlBack x : ℤ) = if wholeLag x then ⌊fVal x⌋ else ⌊fVal x⌋ + 1 := by
  simp only [dlBack, feq_ffrac_iff hx.nonneg, ← ffloor_eq_floor hx.finite hx.nonneg]
  split <;> push_cast <;> rfl

theorem dlAlpha_of_whole (h0 : 0 ≤ fVal x) (h : wholeLag x) : dlAlpha x = fZero := if_pos ((feq_ffrac_iff h0).mpr h)

theorem dlAlpha_of_not_whole (h0 : 0 ≤ fVal x) (h : ¬ wholeLag x) : dlAlpha x = fsub fOne (ffrac x) :=
  if_neg (mt (feq_ffrac_iff h0).mp h)

/-- RPTR stays behind WPTR by less than the length. -/
theorem dlBack_lt (hx : HeldLag len x) : dlBack x < len := by
  have back := dlBack_eq hx
  have floor_le := Int.floor_le (fVal x)
  have le := hx.le
  split at back
  next =>
    have : (⌊fVal x⌋ : ℚ) < len := by linarith
    have : ⌊fVal x⌋ < len := by exact_mod_cast this
    omega
  next h =>
    have : (⌊fVal x⌋ : ℚ) < (len : ℚ) - 1 := (lt_of_le_of_ne floor_le (Ne.symm h)).trans_le le
    have : ⌊fVal x⌋ < (len : ℤ) - 1 := by exact_mod_cast this
    omega

theorem rounded_dlAlpha (h0 : 0 ≤ fVal x) (h : ¬ wholeLag x) : Rounded (1 - Int.fract (fVal x)) (dlAlpha x) := by
  obtain ⟨finite, value⟩ := ffrac_exact h0
  rw [dlAlpha_of_not_whole h0 h, ← value, ← fVal_fOne]
  exact rounded_fsub (by decide) finite

theorem inUnit_dlAlpha (h0 : 0 ≤ fVal x) : inUnit (dlAlpha x) = true := by
  by_cases h : wholeLag x
  · rw [dlAlpha_of_whole h0 h]
    exact inUnit_fZero
  · have nonneg := Int.fract_nonneg (fVal x)
    have lt := Int.fract_lt_one (fVal x)
    exact (rounded_dlAlpha h0 h).inUnit (by linarith) (by linarith)

/-- A fraction leaves a weight of 2^-24 at least: no value stands between it and 1.0. -/
theorem dlAlpha_ne_zero (h0 : 0 ≤ fVal x) (h : ¬ wholeLag x) : feq (dlAlpha x) fZero = false := by
  obtain ⟨-, value⟩ := ffrac_exact h0
  have least : fVal 0x33800000#32 = 1 / 2 ^ 24 := by
    rw [fVal, show signedScaled 0x33800000#32 = 2 ^ 125 by decide]
    norm_num
  have frac_le := fVal_le_of_lt_one (x := ffrac x) (by rw [value]; exact Int.fract_lt_one _)
  have weight_ge := (rounded_dlAlpha h0 h).ge (z := 0x33800000#32) (by decide) (by rw [← value, least]; linarith)
  rw [Bool.eq_false_iff, ne_eq, feq_iff_fVal, fVal_fZero]
  rintro ⟨-, -, zero⟩
  rw [zero, least] at weight_ge
  norm_num at weight_ge

/-- ALPHA tells a delay of whole samples from the others (spec/40_delay_line.md R206). -/
theorem dlBack_eq_of_alpha (hx : HeldLag len x) :
    dlBack x = if feq (dlAlpha x) fZero then ffloor x else ffloor x + 1 := by
  have back := dlBack_eq hx
  have floor := ffloor_eq_floor hx.finite hx.nonneg
  by_cases h : wholeLag x
  · rw [if_pos h] at back
    rw [dlAlpha_of_whole hx.nonneg h, if_pos (by decide)]
    omega
  · rw [if_neg h] at back
    rw [dlAlpha_ne_zero hx.nonneg h, if_neg Bool.false_ne_true]
    omega

/-- The words between the pointers less ALPHA are the delay, up to the rounding of `fl(1.0 - f)`. -/
theorem dlBack_sub_alpha (hx : HeldLag len x) : |(dlBack x : ℚ) - fVal (dlAlpha x) - fVal x| ≤ 1 / 2 ^ 25 := by
  have back : (dlBack x : ℚ) = ((if wholeLag x then ⌊fVal x⌋ else ⌊fVal x⌋ + 1 : ℤ) : ℚ) := by
    exact_mod_cast congrArg (Int.cast (R := ℚ)) (dlBack_eq hx)
  by_cases h : wholeLag x
  · rw [back, if_pos h, dlAlpha_of_whole hx.nonneg h, fVal_fZero, sub_zero, ← h, sub_self, abs_zero]
    positivity
  · have near := (rounded_dlAlpha hx.nonneg h).abs_sub_le (by linarith [Int.fract_lt_one (fVal x)])
      (by linarith [Int.fract_nonneg (fVal x)])
    rw [abs_sub_comm, Int.fract] at near
    rw [back, if_neg h]
    push_cast
    convert near using 2
    ring

end

/-! ## The pointer invariant (spec/40_delay_line.md R206) -/

section
variable {d : DelayLine}

theorem lineTrails_dlSetDelay (hd : lineSound d) (x : F32) : lineTrails (dlSetDelay d x) := by
  have ⟨⟨h1, hlen⟩, _⟩ := hd
  have held := heldLag_dlLag h1 hlen x
  have gap := pointerGap_dlSetDelay hd x (dlBack_lt held)
  refine ⟨held.finite, held.nonneg, held.le, fFinite_of_inUnit (inUnit_dlAlpha held.nonneg), ?_, ?_⟩
  · exact gap.trans (dlBack_eq_of_alpha held)
  · rw [gap]
    exact dlBack_sub_alpha held

theorem lineTrails_reset {len : Nat} (h1 : 1 ≤ len) : lineTrails (DelayLine.reset len) := by
  obtain ⟨finite, nonneg, le⟩ := heldLag_of_zero (x := fZero) h1 rfl
  have gap : pointerGap (DelayLine.reset len) = 0 := by simp [pointerGap, DelayLine.reset]
  have alpha : feq (DelayLine.reset len).alpha fZero = true := (by decide : feq fZero fZero = true)
  have floor : ffloor (DelayLine.reset len).lag = 0 := (by decide : ffloor fZero = 0)
  refine ⟨finite, nonneg, le, finite, ?_, ?_⟩
  · rw [gap, alpha, floor, if_pos rfl]
  · change |(pointerGap (DelayLine.reset len) : ℚ) - fVal fZero - fVal fZero| ≤ _
    rw [gap, fVal_fZero]
    norm_num

theorem LineMove.trails {d' : DelayLine} (h : LineMove d d') (hd : lineSound d) (ht : lineTrails d) :
    lineTrails d' := by
  cases h with
  | setDelay lag => exact lineTrails_dlSetDelay hd lag
  | tick x =>
    unfold lineTrails at ht ⊢
    rwa [pointerGap_dlTick hd x]
  | clear => exact ht

end

/-- The invariant of every line, with the soundness that keeps its pointers inside the buffer. -/
def State.SoundAndTrailing (s : State) : Prop := s.SoundInside ∧ ∀ d ∈ s.dl, lineTrails d

theorem soundAndTrailing_restart {s : State} (hs : s.SoundInside) : (restart s).SoundAndTrailing := by
  refine ⟨soundInside_restart hs, List.forall_mem_map.mpr fun d hd => lineTrails_reset ?_⟩
  obtain ⟨⟨h1, -⟩, -⟩ := hs.dl d hd
  exact h1

theorem Update.soundAndTrailing {s t : State} (h : Update s t) (hs : s.SoundAndTrailing) : t.SoundAndTrailing := by
  have ⟨sound, trails⟩ := hs
  refine ⟨h.soundInside sound, ?_⟩
  cases h with
  | reset => exact (soundAndTrailing_restart sound).2
  | dl u q h =>
    have lines : ∀ d ∈ s.dl, lineSound d ∧ lineTrails d := fun d hd => ⟨sound.dl d hd, trails d hd⟩
    have lines' := forall_mem_set (d := DelayLine.reset 1) lines fun ⟨hd, ht⟩ => ⟨h.sound hd, h.trails hd ht⟩
    exact fun d hd => (lines' d hd).2
  | _ => exact trails

/-- Settles O12: a set delay puts RPTR back by the delay, a tick moves both pointers alike, and no other update but a
reset touches them. -/
theorem everyStepKeepsThePointerInvariant : Obligations.EveryStepKeepsThePointerInvariant := by
  intro s t hs trails h
  obtain ⟨-, sound, -⟩ := State.sound_iff.mp hs
  obtain ⟨es, rfl | rfl | ⟨r, hr, rfl⟩⟩ := step_cases h
  · exact trails
  · exact (soundAndTrailing_restart (s := { s with inbox := es }) { sound with }).2
  · have start : (startCommand { s with inbox := es }).SoundAndTrailing := ⟨{ sound with }, trails⟩
    exact (hr.keeps (fun _ _ => Update.soundAndTrailing) start).2

end Sys2Proof.Machine

/-! Registers read by index, and the commands of a delay line (spec/40_delay_line.md R200 to R205): a command on a unit
that exists runs its rule on that unit. -/

namespace Sys2Proof.Machine

/-! ## A command on a unit that exists -/

section
variable {s : State} {u k : Nat} {w : Word} {α : Type} {units : State → List α} {q r : α}

/-- A command of a unit class runs its rule on the unit as it stands before the command. -/
theorem command_onUnit_getD (hq : (units s)[u]? = some q) (hstart : units (startCommand s) = units s)
    (body : α → State → State) :
    command (onUnit (units s).length u fun t => body ((units t).getD u r) t) s =
      .next (endCommand (body q (startCommand s))) := by
  obtain ⟨hu, -⟩ := List.getElem?_eq_some_iff.mp hq
  rw [command_onUnit hu, hstart, List.getD_eq_getElem?_getD, hq, Option.getD_some]

/-- A command that answers a value of the unit changes nothing else. -/
theorem command_read (hq : (units s)[u]? = some q) (hstart : units (startCommand s) = units s) (value : α → Word) :
    command (onUnit (units s).length u fun t => answer (value ((units t).getD u r)) t) s =
      .next (respond (value q) [] s) :=
  (command_onUnit_getD hq hstart fun q => answer (value q)).trans (congrArg _ (endCommand_answer s _))

/-- A table that has the listed words as its first rows has each of them at its index. -/
theorem row_of_listed {table : Nat → Option Word} {rows : List Word}
    (hrows : (List.range rows.length).map table = rows.map some) (hw : rows[k]? = some w) : table k = some w := by
  obtain ⟨hk, rfl⟩ := List.getElem?_eq_some_iff.mp hw
  simpa [hk] using congrArg (·[k]?) hrows

/-- A read of a listed register answers its word (spec/10_state.md R32). -/
theorem command_readReg {table : α → Nat → Option Word} {rows : List Word} (hq : (units s)[u]? = some q)
    (hstart : units (startCommand s) = units s) (hrows : (List.range rows.length).map (table q) = rows.map some)
    (hw : rows[k]? = some w) :
    command (onUnit (units s).length u fun t => answerReg (table ((units t).getD u r) k) t) s =
      .next (respond w [] s) := by
  rw [command_onUnit_getD hq hstart fun q => answerReg (table q k), row_of_listed hrows hw, endCommand_answerReg]

end

/-- Settles O25: each list is the rows of its class's table, and LASTOUT answers a field of the unit. -/
theorem unitRegisterReads : Obligations.UnitRegisterReads := by
  intro s u k w
  refine ⟨fun q hq hw => ?dl, fun q hq hw => ?op, fun q hq hw => ?oz, fun q hq hw => ?pz, fun q hq hw => ?bq,
    fun q hq hw => ?bow, fun q hq hw => ?reed, fun q hq hw => ?jet, fun q hq hw => ?lip, fun q hq hw => ?env,
    fun q hq hw => ?adsr, fun q hq hw => ?ns, fun q hq hw => ?osc, fun q hq => ?dlLast, fun q hq => ?opLast,
    fun q hq => ?ozLast, fun q hq => ?pzLast, fun q hq => ?bqLast, fun q hq => ?lipLast⟩
  case dl => exact command_readReg (units := State.dl) (table := dlReg) hq rfl rfl hw
  case op => exact command_readReg (units := State.op) (table := opReg) hq rfl rfl hw
  case oz => exact command_readReg (units := State.oz) (table := ozReg) hq rfl rfl hw
  case pz => exact command_readReg (units := State.pz) (table := pzReg) hq rfl rfl hw
  case bq => exact command_readReg (units := State.bq) (table := bqReg) hq rfl rfl hw
  case bow => exact command_readReg (units := State.bow) (table := bowReg) hq rfl rfl hw
  case reed => exact command_readReg (units := State.reed) (table := reedReg) hq rfl rfl hw
  case jet => exact command_readReg (units := State.jet) (table := jetReg) hq rfl rfl hw
  case lip => exact command_readReg (units := State.lip) (table := lipReg) hq rfl rfl hw
  case env =>
    refine command_readReg (units := State.env) (table := envReg) hq rfl ?_ hw
    obtain ⟨_, _, _, state⟩ := q
    cases state <;> rfl
  case adsr =>
    refine command_readReg (units := State.adsr) (table := adsrReg) hq rfl ?_ hw
    obtain ⟨_, _, state, _, _, _, _⟩ := q
    cases state <;> rfl
  case ns => exact command_readReg (units := State.ns) (table := nsReg) hq rfl rfl hw
  case osc => exact command_readReg (units := State.osc) (table := oscReg) hq rfl rfl hw
  case dlLast => exact command_read (units := State.dl) hq rfl DelayLine.last
  case opLast => exact command_read (units := State.op) hq rfl OnePole.last
  case ozLast => exact command_read (units := State.oz) hq rfl OneZero.last
  case pzLast => exact command_read (units := State.pz) hq rfl PoleZero.last
  case bqLast => exact command_read (units := State.bq) hq rfl Biquad.last
  case lipLast => exact command_read (units := State.lip) hq rfl Lip.last

/-! ## The commands of a line -/

section
variable {s : State} {u : Nat} {d : DelayLine}

theorem exec_dlSetDelay (hd : s.dl[u]? = some d) (a : Word) :
    exec (.dlSetDelay u a) s =
      .next (respond 0#32 (warnIf (dlLagOut d.len (asF32 a)) .delayRange) (s.setDl u (dlSetDelay d (asF32 a)))) := by
  refine (command_onUnit_getD (units := State.dl) hd rfl fun d t =>
    raiseIf (dlLagOut d.len (asF32 a)) .delayRange (t.setDl u (dlSetDelay d (asF32 a)))).trans (congrArg _ ?_)
  cases dlLagOut d.len (asF32 a) with
  | false => exact endCommand_start (s.setDl u _)
  | true => exact endCommand_raise (s.setDl u _) _

theorem exec_dlTick (hd : s.dl[u]? = some d) (a : Word) :
    exec (.dlTick u a) s = .next (respond (dlOut d (asF32 a)) [] (s.setDl u (dlTick d (asF32 a)))) :=
  (command_onUnit_getD (units := State.dl) hd rfl fun d t =>
    answer (dlOut d (asF32 a)) (t.setDl u (dlTick d (asF32 a)))).trans (congrArg _ (endCommand_answer (s.setDl u _) _))

theorem exec_dlClear (hd : s.dl[u]? = some d) :
    exec (.dlClear u) s = .next (respond 0#32 [] (s.setDl u (dlClear d))) :=
  (command_onUnit_getD (units := State.dl) hd rfl fun d t => t.setDl u (dlClear d)).trans
    (congrArg _ (endCommand_start (s.setDl u _)))

theorem exec_dlBufRd (hd : s.dl[u]? = some d) {a : Word} (ha : a.toNat < d.len) :
    exec (.dlBufRd u a) s = .next (respond (memRead d.buf a.toNat) [] s) := by
  refine (command_onUnit_getD (units := State.dl) hd rfl fun d t =>
    if asU32 a < d.len then answer (memRead d.buf (asU32 a)) t else refuse t).trans (congrArg _ ?_)
  rw [asU32, if_pos ha]
  exact endCommand_answer _ _

/-- Settles O28: each clause is the command on the line that stands at the unit. -/
theorem delayLineTickClearAndRead : Obligations.DelayLineTickClearAndRead := fun _ _ a _ hd =>
  ⟨exec_dlTick hd a, exec_dlClear hd, exec_dlBufRd hd⟩

/-! ## Setting the delay (spec/40_delay_line.md R200) -/

/-- A line with the delay in effect: the pointers and weights that R200 gives, by whole and fractional delays. -/
def lineWithLag (d : DelayLine) (lag : F32) : DelayLine :=
  if fVal lag = (⌊fVal lag⌋ : ℚ) then
    { d with lag := lag, rptr := (((d.wptr : ℤ) - ⌊fVal lag⌋) % (d.len : ℤ)).toNat,
             alpha := fZero, omalpha := fOne }
  else
    { d with lag := lag, rptr := (((d.wptr : ℤ) - ⌊fVal lag⌋ - 1) % (d.len : ℤ)).toNat,
             alpha := fsub fOne (ffrac lag), omalpha := fsub fOne (fsub fOne (ffrac lag)) }

theorem fsub_fOne_fZero : fsub fOne fZero = fOne := by decide

theorem dlSetDelay_eq_lineWithLag (h1 : 1 ≤ d.len) (hlen : d.len ≤ 16777216) (x : F32) :
    dlSetDelay d x = lineWithLag d (dlLag d.len x) := by
  have held := heldLag_dlLag h1 hlen x
  have rptr := cast_backFrom h1 d.wptr (dlBack (dlLag d.len x))
  rw [dlBack_eq held] at rptr
  unfold dlSetDelay lineWithLag
  generalize dlLag d.len x = lag at *
  by_cases h : wholeLag lag
  · rw [if_pos h] at rptr ⊢
    rw [dlAlpha_of_whole held.nonneg h, fsub_fOne_fZero, ← rptr, Int.toNat_natCast]
  · rw [if_neg h] at rptr ⊢
    rw [dlAlpha_of_not_whole held.nonneg h, sub_sub, ← rptr, Int.toNat_natCast]

theorem exec_dlSetDelay_lineWithLag (hd : s.dl[u]? = some d) (h1 : 1 ≤ d.len) (hlen : d.len ≤ 16777216) {a : Word}
    {lag : F32} {out : Bool} (hlag : dlLag d.len (asF32 a) = lag) (hout : dlLagOut d.len (asF32 a) = out) :
    exec (.dlSetDelay u a) s = .next (respond 0#32 (warnIf out .delayRange) (s.setDl u (lineWithLag d lag))) := by
  rw [exec_dlSetDelay hd, dlSetDelay_eq_lineWithLag h1 hlen, hlag, hout]

/-- Settles O27: the delay in effect and the warning by the kind of the requested delay, then the line for that delay. -/
theorem delayLineLagSetting : Obligations.DelayLineLagSetting := by
  intro s u a d hd h1 hlen _ x max line placed
  have set {lag : F32} {out : Bool} := exec_dlSetDelay_lineWithLag (a := a) (lag := lag) (out := out) hd h1 hlen
  refine ⟨fun h0 => ?zero, fun h0 hlow hhigh => ?held, fun h => ?low, fun h => ?high, dlMax_exact h1 hlen,
    fun _ h0 => (ffrac_exact h0).2⟩
  case zero => exact set (dlLag_of_zero h0) (dlLagOut_of_held h1 hlen (heldLag_of_zero h1 h0))
  case held =>
    have held := heldLag_of_fle h1 hlen hlow hhigh
    exact set (dlLag_of_held h1 hlen held h0) (dlLagOut_of_held h1 hlen held)
  case low => exact set (dlLag_of_nan_or_neg h) (dlLagOut_of_nan_or_neg h)
  case high => exact set (dlLag_of_above h1 hlen h) (dlLagOut_of_above h)

end

end Sys2Proof.Machine

/-! The impulse response of a delay line (spec/40_delay_line.md R207): after an impulse into a cleared line one word holds
the sample, and each tick weighs the words that it reads. -/

namespace Sys2Proof.Machine

/-! ## Indices modulo the length -/

theorem add_mod_eq_iff {len w : Nat} (hw : w < len) (r k : Nat) :
    (r + k) % len = w ↔ (k : ℤ) % len = ((w : ℤ) - r) % len := by
  have cast : (r + k) % len = w ↔ ((r : ℤ) + k) % len = (w : ℤ) % len := by
    rw [Int.emod_eq_of_lt (by omega) (by omega : (w : ℤ) < len)]
    exact_mod_cast Iff.rfl
  rw [cast, Int.emod_eq_emod_iff_emod_sub_eq_zero, Int.emod_eq_emod_iff_emod_sub_eq_zero, sub_sub_eq_add_sub,
    add_comm (r : ℤ)]

theorem add_mod_ne_self {len w k : Nat} (hw : w < len) (h0 : 0 < k) (hk : k < len) : (w + k) % len ≠ w := by
  rw [ne_eq, add_mod_eq_iff hw, sub_self, Int.zero_emod, Int.emod_eq_of_lt (by omega) (by omega)]
  omega

/-- Among the indices of a line only `n` is followed by the index `n + 1`. -/
theorem succ_mod_eq_succ_iff {len k n : Nat} (hk : k < len) (hn : n + 1 < len) : (k + 1) % len = n + 1 ↔ k = n := by
  rcases (Nat.add_one_le_iff.mpr hk).lt_or_eq with h | h
  · rw [Nat.mod_eq_of_lt h, Nat.succ_inj]
  · rw [h, Nat.mod_self]
    omega

/-- The word `k` places after RPTR is the one at WPTR where `k` is the gap between the pointers. -/
theorem rptr_add_mod_eq_wptr_iff {d : DelayLine} (hd : lineSound d) (k : Nat) :
    (d.rptr + k) % d.len = d.wptr ↔ k % d.len = pointerGap d := by
  have ⟨_, hw, _⟩ := hd
  rw [add_mod_eq_iff hw, ← cast_pointerGap hd]
  exact_mod_cast Iff.rfl

/-! ## The line after an impulse -/

/-- The word at index `j` of a cleared line after the sample `x` went to index `w`. -/
def impulseWord (w : Nat) (x : F32) (j : Nat) : F32 := if j = w then x else fZero

/-- The output of a tick that reads the words `s0` and `s1` (spec/40_delay_line.md R201). -/
def weighted (d : DelayLine) (s0 s1 : F32) : F32 := fadd (fmul d.omalpha s0) (fmul d.alpha s1)

/-- The line `d` is `e` after an impulse `x` at tick 0 and zeros up to tick `k`. -/
structure AfterImpulse (e : DelayLine) (x : F32) (k : Nat) (d : DelayLine) : Prop where
  len : d.len = e.len
  alpha : d.alpha = e.alpha
  omalpha : d.omalpha = e.omalpha
  wptr : d.wptr = (e.wptr + (k + 1)) % e.len
  rptr : d.rptr = (e.rptr + (k + 1)) % e.len
  wf : Memory.wf d.buf
  word : ∀ j, memRead d.buf j = impulseWord e.wptr x j
  last : d.last = weighted e (impulseWord e.wptr x ((e.rptr + k) % e.len))
    (impulseWord e.wptr x ((e.rptr + k + 1) % e.len))

section
variable {e d : DelayLine} {x : F32} {k : Nat}

theorem afterImpulse_first (he : lineSound e) (hbuf : e.buf = []) (hx : fFinite x) :
    AfterImpulse e x 0 (dlTick e x) := by
  obtain ⟨-, -, hr, hwf, -⟩ := he
  have word (j : Nat) : memRead (dlWritten e x) j = impulseWord e.wptr x j := by
    rw [dlWritten, memRead_memWrite hwf, hbuf, fCanon_of_not_nan (not_nan_of_finite hx)]
    rfl
  refine ⟨rfl, rfl, rfl, rfl, rfl, memWrite_wf hwf _ _, word, ?_⟩
  rw [Nat.add_zero, Nat.mod_eq_of_lt hr, ← word, ← word]
  rfl

/-- A later tick of the first round writes a zero beside the sample. -/
theorem AfterImpulse.next (h : AfterImpulse e x k d) (hw : e.wptr < e.len) (hk : k + 1 < e.len) :
    AfterImpulse e x (k + 1) (dlTick d fZero) := by
  have beside : d.wptr ≠ e.wptr := by
    rw [h.wptr]
    exact add_mod_ne_self hw (Nat.succ_pos k) hk
  have word (j : Nat) : memRead (dlWritten d fZero) j = impulseWord e.wptr x j := by
    rw [dlWritten, memRead_memWrite h.wf]
    split
    next hj => rw [impulseWord, hj, if_neg beside]; rfl
    · exact h.word j
  have succ (p : Nat) : ((p + (k + 1)) % e.len + 1) % e.len = (p + (k + 1) + 1) % e.len := Nat.mod_add_mod _ _ _
  refine ⟨h.len, h.alpha, h.omalpha, ?_, ?_, memWrite_wf h.wf _ _, word, ?_⟩
  · simp only [dlTick, h.len, h.wptr, succ]; rfl
  · simp only [dlTick, h.len, h.rptr, succ]; rfl
  · simp only [dlTick, dlOut, h.len, h.rptr, h.alpha, h.omalpha, succ, word]; rfl

theorem afterImpulse (he : lineSound e) (hbuf : e.buf = []) (hx : fFinite x) (hk : k < e.len) :
    AfterImpulse e x k ((fun f => dlTick f fZero)^[k] (dlTick e x)) := by
  induction k with
  | zero => exact afterImpulse_first he hbuf hx
  | succ k ih =>
    obtain ⟨-, hw, -⟩ := he
    rw [Function.iterate_succ_apply']
    exact (ih (by omega)).next hw hk

/-- Tick `k` reads the sample at RPTR where `k` is the gap between the pointers, and after RPTR one tick before. -/
theorem impulse_last (he : lineSound e) (hbuf : e.buf = []) (hx : fFinite x) (hk : k < e.len) :
    ((fun f => dlTick f fZero)^[k] (dlTick e x)).last =
      weighted e (if k = pointerGap e then x else fZero) (if (k + 1) % e.len = pointerGap e then x else fZero) := by
  have at_rptr := rptr_add_mod_eq_wptr_iff he k
  have after_rptr := rptr_add_mod_eq_wptr_iff he (k + 1)
  rw [Nat.mod_eq_of_lt hk] at at_rptr
  rw [(afterImpulse he hbuf hx hk).last]
  simp only [impulseWord, at_rptr, ← after_rptr, Nat.add_assoc]

end

/-! ## What a tick weighs -/

section
variable {e : DelayLine} {x s0 s1 : F32}

/-- A zero at RPTR leaves the product of ALPHA. -/
theorem weighted_zero_left (halpha : inUnit e.alpha = true) (homalpha : inUnit e.omalpha = true) (h1 : fFinite s1) :
    feq (weighted e fZero s1) (fmul e.alpha s1) = true := by
  obtain ⟨zero, zero_value⟩ := fVal_fmul_zero (fFinite_of_inUnit homalpha) (y := fZero) (by decide) (.inr fVal_fZero)
  have product := fFinite_fmul_of_inUnit halpha h1
  obtain ⟨finite, value⟩ := fVal_fadd_zero_left zero product zero_value
  exact feq_of_fVal_eq finite product value

/-- ALPHA zero, or a zero after RPTR, leaves the product of OMALPHA. -/
theorem weighted_zero_right (halpha : inUnit e.alpha = true) (homalpha : inUnit e.omalpha = true) (h0 : fFinite s0)
    (h1 : fFinite s1) (h : fVal e.alpha = 0 ∨ fVal s1 = 0) : feq (weighted e s0 s1) (fmul e.omalpha s0) = true := by
  obtain ⟨zero, zero_value⟩ := fVal_fmul_zero (fFinite_of_inUnit halpha) h1 h
  have product := fFinite_fmul_of_inUnit homalpha h0
  obtain ⟨finite, value⟩ := fVal_fadd_zero_right product zero zero_value
  exact feq_of_fVal_eq finite product value

theorem feq_fmul_fOne (hx : fFinite x) : feq (fmul fOne x) x = true := by
  obtain ⟨finite, value⟩ := fVal_fmul_one (by decide) hx fVal_fOne
  exact feq_of_fVal_eq finite hx value

theorem feq_fmul_fZero (hx : fFinite x) : feq (fmul x fZero) fZero = true := by
  obtain ⟨finite, value⟩ := fVal_fmul_zero hx (y := fZero) (by decide) (.inr fVal_fZero)
  exact feq_of_fVal_eq finite (by decide) (value.trans fVal_fZero.symm)

end

/-! ## The line with its delay set -/

section
variable {d : DelayLine} {lag : F32}

/-- A line set to whole samples passes the word at RPTR. -/
theorem dlSetDelay_whole (hd : lineSound d) (hlag : HeldLag d.len lag) (h : wholeLag lag) :
    (pointerGap (dlSetDelay d lag) : ℤ) = ⌊fVal lag⌋ ∧ (dlSetDelay d lag).alpha = fZero ∧
    (dlSetDelay d lag).omalpha = fOne := by
  have ⟨⟨h1, hlen⟩, _⟩ := hd
  have held := heldLag_dlLag h1 hlen lag
  rw [wholeLag, ← fVal_dlLag_of_held h1 hlen hlag] at h
  rw [← fVal_dlLag_of_held h1 hlen hlag]
  have alpha := dlAlpha_of_whole held.nonneg h
  refine ⟨?_, alpha, ?_⟩
  · rw [pointerGap_dlSetDelay hd lag (dlBack_lt held), dlBack_eq held, if_pos h]
  · simp only [dlSetDelay, alpha, fsub_fOne_fZero]

theorem dlSetDelay_not_whole (hd : lineSound d) (hlag : HeldLag d.len lag) (h : ¬ wholeLag lag) :
    (pointerGap (dlSetDelay d lag) : ℤ) = ⌊fVal lag⌋ + 1 := by
  have ⟨⟨h1, hlen⟩, _⟩ := hd
  have held := heldLag_dlLag h1 hlen lag
  rw [wholeLag, ← fVal_dlLag_of_held h1 hlen hlag] at h
  rw [← fVal_dlLag_of_held h1 hlen hlag]
  rw [pointerGap_dlSetDelay hd lag (dlBack_lt held), dlBack_eq held, if_neg h]

theorem inUnit_weights (hd : lineSound d) (lag : F32) :
    inUnit (dlSetDelay d lag).alpha = true ∧ inUnit (dlSetDelay d lag).omalpha = true := by
  obtain ⟨⟨h1, hlen⟩, -⟩ := hd
  have alpha := inUnit_dlAlpha (heldLag_dlLag h1 hlen lag).nonneg
  exact ⟨alpha, inUnit_fsub_fOne alpha⟩

end

/-- Settles O30: at tick `k` the words read are `k` and `k + 1` places after RPTR, and of all words only the one at the
first WPTR holds the sample. -/
theorem delayLineImpulseResponse : Obligations.DelayLineImpulseResponse := by
  intro d lag x n k hd hbuf hx hlag h0 hn hlen hle hk e y whole
  have held : HeldLag d.len lag := ⟨hlag, h0, hle⟩
  have he : lineSound e := (LineMove.setDelay lag).sound hd
  obtain ⟨halpha, homalpha⟩ : inUnit e.alpha = true ∧ inUnit e.omalpha = true := inUnit_weights hd lag
  have hy : y = weighted e _ _ := impulse_last he hbuf hx hk
  have zero : fFinite fZero := by decide
  have whole_iff : whole ↔ wholeLag lag := by rw [wholeLag, ← hn]; rfl
  by_cases h : whole
  · obtain ⟨gap, alpha, omalpha⟩ := dlSetDelay_whole hd held (whole_iff.mp h)
    have gap : pointerGap e = n := by exact_mod_cast gap.trans hn.symm
    rw [gap] at hy
    have passes {s0 s1 : F32} (h0 : fFinite s0) (h1 : fFinite s1) : feq (weighted e s0 s1) s0 = true :=
      feq_trans (weighted_zero_right halpha homalpha h0 h1 (.inl (alpha ▸ fVal_fZero))) (omalpha ▸ feq_fmul_fOne h0)
    have after : fFinite (if (k + 1) % e.len = n then x else fZero) := by
      split
      · exact hx
      · exact zero
    refine ⟨fun _ hkn => ?sample, fun hw => absurd h hw, fun hw => absurd h hw, fun hkn _ => ?silence⟩
    case sample =>
      rw [if_pos hkn] at hy
      exact hy ▸ passes hx after
    case silence =>
      rw [if_neg hkn] at hy
      exact hy ▸ passes zero after
  · have gap : pointerGap e = n + 1 := by
      exact_mod_cast (dlSetDelay_not_whole hd held (mt whole_iff.mpr h)).trans (congrArg (· + 1) hn.symm)
    rw [gap] at hy
    simp only [show (k + 1) % e.len = n + 1 ↔ k = n from succ_mod_eq_succ_iff hk hlen] at hy
    refine ⟨fun hw => absurd hw h, fun _ hkn => ?first, fun _ hkn => ?second, fun hkn hkn1 => ?other⟩
    case first =>
      rw [if_neg (by omega), if_pos hkn] at hy
      exact hy ▸ weighted_zero_left halpha homalpha hx
    case second =>
      rw [if_pos hkn, if_neg (by omega)] at hy
      exact hy ▸ weighted_zero_right halpha homalpha hx zero (.inr fVal_fZero)
    case other =>
      rw [if_neg (hkn1 h), if_neg hkn] at hy
      exact hy ▸ feq_trans (weighted_zero_left halpha homalpha zero) (feq_fmul_fZero (fFinite_of_inUnit halpha))

end Sys2Proof.Machine

/-! The filter commands (spec/41_filters.md): each runs its rule on the filter that stands at its unit and leaves the
rest. -/

namespace Sys2Proof.Machine

/-! ## Commands that write the unit they address -/

section
variable {s : State} {u : Nat} {α : Type} {units : State → List α} {put : State → Nat → α → State} {q r : α}

/-- A command that writes its unit from its old value answers 0 and changes nothing else. -/
theorem command_write (hq : (units s)[u]? = some q) (hstart : units (startCommand s) = units s)
    (hput : ∀ x, put (startCommand s) u x = startCommand (put s u x)) (f : α → α) :
    command (onUnit (units s).length u fun t => put t u (f ((units t).getD u r))) s =
      .next (respond 0#32 [] (put s u (f q))) := by
  rw [command_onUnit_getD hq hstart fun q t => put t u (f q), hput, endCommand_start]

/-- A tick writes its unit and answers a sample, both from the unit's old value. -/
theorem command_tick (hq : (units s)[u]? = some q) (hstart : units (startCommand s) = units s)
    (hput : ∀ x, put (startCommand s) u x = startCommand (put s u x)) (f : α → α) (out : α → Word) :
    command (onUnit (units s).length u fun t =>
        answer (out ((units t).getD u r)) (put t u (f ((units t).getD u r)))) s =
      .next (respond (out q) [] (put s u (f q))) := by
  rw [command_onUnit_getD hq hstart fun q t => answer (out q) (put t u (f q)), hput, endCommand_answer]

end

/-! ## One-pole, one-zero and pole-zero -/

/-- Settles O31: each clause is the filter's own operation written to its unit. -/
theorem onePoleCommands : Obligations.OnePoleCommands := by
  intro s u a q hq x y
  have write (f : OnePole → OnePole) := command_write (units := State.op) (put := State.setOp) (r := OnePole.reset) hq rfl
    (startCommand_setOp s u) f
  have tick := command_tick (units := State.op) (put := State.setOp) (r := OnePole.reset) hq rfl
    (startCommand_setOp s u) (opTick · x) (opOut · x)
  exact ⟨write (opSetPole · x), write (opSetGain · x), tick, write opClear⟩

/-- Settles O32: each clause is the filter's own operation written to its unit. -/
theorem oneZeroCommands : Obligations.OneZeroCommands := by
  intro s u a q hq x y zeroB0 gainB0
  have write (f : OneZero → OneZero) := command_write (units := State.oz) (put := State.setOz) (r := OneZero.reset) hq rfl
    (startCommand_setOz s u) f
  have tick := command_tick (units := State.oz) (put := State.setOz) (r := OneZero.reset) hq rfl
    (startCommand_setOz s u) (ozTick · x) (ozOut · x)
  exact ⟨write (ozSetZero · x), write (ozSetGain · x), tick, write ozClear⟩

/-- Settles O33: each clause is the filter's own operation written to its unit. -/
theorem poleZeroCommands : Obligations.PoleZeroCommands := by
  intro s u a q hq x y
  have write (f : PoleZero → PoleZero) := command_write (units := State.pz) (put := State.setPz) (r := PoleZero.reset) hq
    rfl (startCommand_setPz s u) f
  have tick := command_tick (units := State.pz) (put := State.setPz) (r := PoleZero.reset) hq rfl
    (startCommand_setPz s u) (pzTick · x) (pzOut · x)
  exact ⟨write (pzSetA1 · x), write (pzSetB0 · x), write (pzSetB1 · x), write (pzSetBlockZero · x), tick, write pzClear⟩

/-! ## Biquad -/

section
variable {s : State} {u : Nat} {q : Biquad}

/-- BQ.SETFREQRESON reads FS and the COS32 of the build, which the start of the command keeps (spec/41_filters.md R260). -/
theorem exec_bqSetFreqReson (hq : s.bq[u]? = some q) (a b : Word) :
    exec (.bqSetFreqReson u a b) s =
      .next (respond 0#32 [] (s.setBq u (bqSetFreqReson s.cosine s.fs q (asF32 a) (asF32 b)))) :=
  (command_onUnit_getD (units := State.bq) hq rfl fun q t =>
    t.setBq u (bqSetFreqReson t.cosine t.fs q (asF32 a) (asF32 b))).trans (congrArg _ (endCommand_start (s.setBq u _)))

/-- BQ.SETCOEF at a listed index (spec/41_filters.md R265). -/
theorem exec_bqSetCoef (hq : s.bq[u]? = some q) {k : Nat} {a : Word} {p : Biquad}
    (hp : bqSetCoef q k (asF32 a) = some p) :
    exec (.bqSetCoef u k a) s = .next (respond 0#32 [] (s.setBq u p)) := by
  have hat : s.bqAt u = q := by simp [State.bqAt, hq]
  obtain ⟨hu, -⟩ := List.getElem?_eq_some_iff.mp hq
  refine (command_onUnit hu (subBqSetCoef u k (asF32 a)) s).trans (congrArg _ ?_)
  simp [subBqSetCoef, hat, hp, endCommand_start]

end

/-- Settles O34: each clause is the biquad's own operation written to its unit. -/
theorem biquadCommands : Obligations.BiquadCommands := by
  intro s u a b q hq x r th w y put
  have write (f : Biquad → Biquad) := command_write (units := State.bq) (put := State.setBq) (r := Biquad.reset) hq rfl
    (startCommand_setBq s u) f
  have tick := command_tick (units := State.bq) (put := State.setBq) (r := Biquad.reset) hq rfl
    (startCommand_setBq s u) (bqTick · x) (bqOut · x)
  exact ⟨exec_bqSetFreqReson hq a b, write bqSetEqualGainZeroes, tick, write bqClear, exec_bqSetCoef hq rfl,
    exec_bqSetCoef hq rfl, exec_bqSetCoef hq rfl, exec_bqSetCoef hq rfl, exec_bqSetCoef hq rfl⟩

end Sys2Proof.Machine

/-! A unit command stays in its unit (spec/41_filters.md R268): what a command may change beside the unit that it
addresses, kept by each shared operation and so by every command of a unit class. -/

namespace Sys2Proof.Machine

/-! ## Changes confined to a unit -/

/-- From `s` to `t` nothing but the named unit, the answer and the warning state changes, and STATUS and WARN gain the
bits of the same warnings `m` (spec/60_exceptions.md R532). -/
structure Confined (unit : Option (UnitClass × Nat)) (s t : State) : Prop where
  others : otherUnitsKept unit s t
  voice : t.voice = s.voice
  irqEn : t.irqEn = s.irqEn
  warned : ∃ m, t.rspWarn = s.rspWarn ||| m ∧ t.status = s.status ||| m ∧ (m = 0#8 → t.lastWarn = s.lastWarn)

theorem warnBit_ne_zero (w : Warning) : warnBit w ≠ 0#8 := by cases w <;> decide

theorem otherUnitsKept_refl (unit : Option (UnitClass × Nat)) (s : State) : otherUnitsKept unit s s := by
  simp [otherUnitsKept]

/-- One unit written. -/
inductive UnitWrite (s : State) : UnitClass → Nat → State → Prop
  | dl (u : Nat) (q : DelayLine) : UnitWrite s .dl u (s.setDl u q)
  | op (u : Nat) (q : OnePole) : UnitWrite s .op u (s.setOp u q)
  | oz (u : Nat) (q : OneZero) : UnitWrite s .oz u (s.setOz u q)
  | pz (u : Nat) (q : PoleZero) : UnitWrite s .pz u (s.setPz u q)
  | bq (u : Nat) (q : Biquad) : UnitWrite s .bq u (s.setBq u q)
  | bow (u : Nat) (q : Bow) : UnitWrite s .bow u (s.setBow u q)
  | reed (u : Nat) (q : Reed) : UnitWrite s .reed u (s.setReed u q)
  | jet (u : Nat) (q : Jet) : UnitWrite s .jet u (s.setJet u q)
  | lip (u : Nat) (q : Lip) : UnitWrite s .lip u (s.setLip u q)
  | env (u : Nat) (q : Env) : UnitWrite s .env u (s.setEnv u q)
  | adsr (u : Nat) (q : Adsr) : UnitWrite s .adsr u (s.setAdsr u q)
  | ns (u : Nat) (q : Noise) : UnitWrite s .ns u (s.setNs u q)
  | osc (u : Nat) (q : Osc) : UnitWrite s .osc u (s.setOsc u q)

section
variable {unit : Option (UnitClass × Nat)} {s t : State}

theorem confined_refl (unit : Option (UnitClass × Nat)) (s : State) : Confined unit s s where
  others := otherUnitsKept_refl unit s
  voice := rfl
  irqEn := rfl
  warned := ⟨0#8, by simp⟩

/-- A write of one unit is a write of one list at one index. -/
theorem UnitWrite.others {c : UnitClass} {u : Nat} (h : UnitWrite s c u t) : otherUnitsKept (some (c, u)) s t := by
  cases h <;> simp +contextual [otherUnitsKept]

theorem UnitWrite.confined {c : UnitClass} {u : Nat} (h : UnitWrite s c u t) : Confined (some (c, u)) s t where
  others := h.others
  voice := by cases h <;> rfl
  irqEn := by cases h <;> rfl
  warned := ⟨0#8, by cases h <;> simp⟩

theorem Confined.answer (h : Confined unit s t) (w : Word) : Confined unit s (answer w t) := { h with }

theorem Confined.raise (h : Confined unit s t) (w : Warning) : Confined unit s (raise w t) := by
  obtain ⟨m, hwarn, hstatus, -⟩ := h.warned
  refine { h with warned := ⟨m ||| warnBit w, ?_, ?_, fun h0 => ?_⟩ }
  · rw [raise_rspWarn, hwarn, BitVec.or_assoc]
  · rw [raise_status, hstatus, BitVec.or_assoc]
  · exact absurd (BitVec.or_eq_zero_iff.mp h0).2 (warnBit_ne_zero w)

theorem Confined.raiseIf (h : Confined unit s t) (c : Bool) (w : Warning) : Confined unit s (raiseIf c w t) := by
  cases c
  · exact h
  · exact h.raise w

theorem confined_answer (w : Word) : Confined unit s (answer w s) := (confined_refl unit s).answer w

theorem confined_raise (w : Warning) : Confined unit s (raise w s) := (confined_refl unit s).raise w

theorem confined_refuse : Confined unit s (refuse s) := (confined_raise .illegal).answer 0#32

theorem confined_answerReg (r : Option Word) : Confined unit s (answerReg r s) := by
  cases r with
  | none => exact confined_refuse
  | some w => exact confined_answer w

/-! ## Commands -/

variable {body : State → State}

/-- From its start on, a command changes what its rule changes. -/
theorem command_confined (h : command body s = .next t) (hb : ∀ s, Confined unit s (body s)) :
    Confined unit (startCommand s) t := by
  rw [command_eq] at h
  cases h
  exact { hb (startCommand s) with }

theorem unitCommand_confined {n u : Nat} (h : command (onUnit n u body) s = .next t)
    (hb : ∀ s, Confined unit s (body s)) : Confined unit (startCommand s) t := by
  refine command_confined h fun s => ?_
  unfold onUnit
  split
  · exact hb s
  · exact confined_refuse

/-- A write of a system register keeps every unit and the voice (spec/48_system.md R503). -/
theorem sysWrite_keeps (reg : Nat) (v : Word) (s : State) :
    otherUnitsKept none s (sysWrite reg v s) ∧ (sysWrite reg v s).voice = s.voice := by
  unfold sysWrite
  split
  · exact ⟨otherUnitsKept_refl none s, rfl⟩
  · exact ⟨otherUnitsKept_refl none s, rfl⟩
  · exact ⟨otherUnitsKept_refl none s, rfl⟩
  · exact ⟨confined_refuse.others, confined_refuse.voice (unit := none)⟩

theorem exec_sysWrReg_keeps {reg : Nat} {v : Word} (h : exec (.sysWrReg reg v) s = .next t) :
    otherUnitsKept none s t ∧ t.voice = s.voice := by
  cases h
  exact sysWrite_keeps reg v (startCommand s)

/-- Every command of a unit class, and every SYS command that writes no register, is confined to the unit it
addresses. -/
theorem exec_confined {i : Instr} (h : exec i s = .next t) (hvoice : isVoice i = false) (hreset : i ≠ .sysReset)
    (hwrite : ∀ r v, i ≠ .sysWrReg r v) : Confined (target i) (startCommand s) t := by
  cases i with
  | sysReset => exact absurd rfl hreset
  | sysWrReg r v => exact absurd rfl (hwrite r v)
  | vNoteOn | vNoteOff | vSetFreq | vTick | vCc | vSetInstr | vReset | vLastOut | vRdReg | vWrReg => cases hvoice
  | sysNop => exact command_confined (body := fun s => s) h (confined_refl none)
  | sysRdReg => exact command_confined h fun _ => confined_answerReg _
  | dlLastOut | opLastOut | ozLastOut | pzLastOut | bqLastOut | lipLastOut =>
    exact unitCommand_confined h fun _ => confined_answer _
  | dlRdReg | opRdReg | ozRdReg | pzRdReg | bqRdReg | bowRdReg | reedRdReg | jetRdReg | lipRdReg | envRdReg | adsrRdReg
  | nsRdReg | oscRdReg =>
    exact unitCommand_confined h fun _ => confined_answerReg _
  | dlBufRd | oscTblRd =>
    refine unitCommand_confined h fun s => ?_
    split
    · exact confined_answer _
    · exact confined_refuse
  | dlSetDelay => exact unitCommand_confined h fun _ => (UnitWrite.dl _ _).confined.raiseIf _ _
  | dlTick => exact unitCommand_confined h fun _ => (UnitWrite.dl _ _).confined.answer _
  | dlClear => exact unitCommand_confined h fun _ => (UnitWrite.dl _ _).confined
  | opSetPole | opSetGain | opClear => exact unitCommand_confined h fun _ => (UnitWrite.op _ _).confined
  | opTick => exact unitCommand_confined h fun _ => (UnitWrite.op _ _).confined.answer _
  | ozSetZero | ozSetGain | ozClear => exact unitCommand_confined h fun _ => (UnitWrite.oz _ _).confined
  | ozTick => exact unitCommand_confined h fun _ => (UnitWrite.oz _ _).confined.answer _
  | pzSetA1 | pzSetB0 | pzSetB1 | pzSetBlockZero | pzClear =>
    exact unitCommand_confined h fun _ => (UnitWrite.pz _ _).confined
  | pzTick => exact unitCommand_confined h fun _ => (UnitWrite.pz _ _).confined.answer _
  | bqSetFreqReson | bqSetEqualGainZeroes | bqClear => exact unitCommand_confined h fun _ => (UnitWrite.bq _ _).confined
  | bqTick => exact unitCommand_confined h fun _ => (UnitWrite.bq _ _).confined.answer _
  | bqSetCoef =>
    refine unitCommand_confined h fun s => ?_
    unfold subBqSetCoef
    split
    · exact (UnitWrite.bq _ _).confined
    · exact confined_refuse
  | bowSetOffset | bowSetSlope => exact unitCommand_confined h fun _ => (UnitWrite.bow _ _).confined
  | bowTick => exact unitCommand_confined h fun _ => (UnitWrite.bow _ _).confined.answer _
  | reedSetOffset | reedSetSlope => exact unitCommand_confined h fun _ => (UnitWrite.reed _ _).confined
  | reedTick => exact unitCommand_confined h fun _ => (UnitWrite.reed _ _).confined.answer _
  | jetTick => exact unitCommand_confined h fun _ => (UnitWrite.jet _ _).confined.answer _
  | lipSetFreqReson | lipSetEqualGainZeroes | lipClear =>
    exact unitCommand_confined h fun _ => (UnitWrite.lip _ _).confined
  | lipTick => exact unitCommand_confined h fun _ => (UnitWrite.lip _ _).confined.answer _
  | lipSetCoef =>
    refine unitCommand_confined h fun s => ?_
    unfold subLipSetCoef
    split
    · exact (UnitWrite.lip _ _).confined
    · exact confined_refuse
  | envSetRate => exact unitCommand_confined h fun _ => (UnitWrite.env _ _).confined.raiseIf _ _
  | envSetTarget =>
    refine unitCommand_confined h fun s => ?_
    unfold subEnvSetTarget
    split
    · exact confined_raise _
    · exact (UnitWrite.env _ _).confined
  | envSetValue =>
    refine unitCommand_confined h fun s => ?_
    unfold subEnvSetValue
    split
    · exact confined_raise _
    · exact (UnitWrite.env _ _).confined
  | envKeyOn | envKeyOff => exact unitCommand_confined h fun _ => (UnitWrite.env _ _).confined
  | envTick => exact unitCommand_confined h fun _ => (UnitWrite.env _ _).confined.answer _
  | adsrSetAttack | adsrSetDecay | adsrSetRelease =>
    exact unitCommand_confined h fun _ => (UnitWrite.adsr _ _).confined.raiseIf _ _
  | adsrSetSustain =>
    refine unitCommand_confined h fun s => ?_
    split
    · exact confined_raise _
    · exact (UnitWrite.adsr _ _).confined.raiseIf _ _
  | adsrKeyOn | adsrKeyOff => exact unitCommand_confined h fun _ => (UnitWrite.adsr _ _).confined
  | adsrTick => exact unitCommand_confined h fun _ => (UnitWrite.adsr _ _).confined.answer _
  | nsSeed => exact unitCommand_confined h fun _ => (UnitWrite.ns _ _).confined.raiseIf _ _
  | nsTick u =>
    refine unitCommand_confined h fun s => Confined.answer ?_ _
    unfold subNsTick
    split
    · exact (UnitWrite.ns _ _).confined
    · exact { (UnitWrite.ns (s := s) u _).confined with }
  | oscSetFreq => exact unitCommand_confined h fun _ => (UnitWrite.osc _ _).confined.raiseIf _ _
  | oscReset => exact unitCommand_confined h fun _ => (UnitWrite.osc _ _).confined
  | oscTick => exact unitCommand_confined h fun _ => (UnitWrite.osc _ _).confined.answer _
  | oscTblWr =>
    refine unitCommand_confined h fun s => ?_
    split
    · exact (UnitWrite.osc _ _).confined
    · exact confined_refuse

end

/-- Settles O20: a command of a unit class is confined to its unit, and from a cleared WARN the warnings that STATUS
gained are WARN itself. -/
theorem unitCommandsStayInTheirUnit : Obligations.UnitCommandsStayInTheirUnit := by
  intro i s t hvoice hreset h
  by_cases hwrite : ∀ r v, i ≠ .sysWrReg r v
  · have hc := exec_confined h hvoice hreset hwrite
    have tick : t.tickCount = s.tickCount :=
      exec_keeps_tickCount h (fun hi => by cases hi; cases hvoice) (hwrite 4) hreset
    obtain ⟨m, hwarn, hstatus, hlast⟩ := hc.warned
    obtain rfl : t.rspWarn = m := by simpa using hwarn
    exact ⟨hc.others, hc.voice, fun _ => ⟨tick, hc.irqEn, hstatus, fun h0 => ⟨by simpa [h0] using hstatus, hlast h0⟩⟩⟩
  · push Not at hwrite
    obtain ⟨r, v, rfl⟩ := hwrite
    obtain ⟨units, voice⟩ := exec_sysWrReg_keeps h
    exact ⟨units, voice, fun hne => absurd rfl (hne r v)⟩

end Sys2Proof.Machine

/-! The nonlinear elements (spec/42_nonlinear.md): the bow, reed and jet tables with their bounds, and the lip. A table's
output is a NaN or in bounds whatever its operand (`bowOut_inUnit`, `fclamp_inUnitRange`), so the bounds of R319 turn on
the operands that no operation of the table answers a NaN for. -/

namespace Sys2Proof.Machine

/-! ## Results that are no NaN -/

section
variable {x y : F32}

/-- A product of numbers is a number unless a zero meets an infinity (spec/00_scope.md R19). -/
theorem not_nan_fmul (hx : isNaN x = false) (hy : isNaN y = false) (hx_inf : isInf x = true → fMag y ≠ 0)
    (hy_inf : isInf y = true → fMag x ≠ 0) : isNaN (fmul x y) = false := by
  cases hxi : isInf x with
  | true => rw [fmul_inf hx hy (.inl hxi) (fMag_ne_zero_of_inf hxi) (hx_inf hxi), isNaN_packMag]
  | false =>
    cases hyi : isInf y with
    | true => rw [fmul_inf hx hy (.inr hyi) (hy_inf hyi) (fMag_ne_zero_of_inf hyi), isNaN_packMag]
    | false => simp [fmul, hx, hy, hxi, hyi, isNaN_roundQuot]

theorem not_nan_fmul_self (hx : isNaN x = false) : isNaN (fmul x x) = false :=
  not_nan_fmul hx hx fMag_ne_zero_of_inf fMag_ne_zero_of_inf

/-- A sum of a number and a finite value is a number, in either order. -/
theorem not_nan_fadd (hx : isNaN x = false) (hy : fFinite y) :
    isNaN (fadd x y) = false ∧ isNaN (fadd y x) = false := by
  rcases finite_or_inf hx with hfin | hmag
  · exact ⟨(rounded_fadd hfin hy).not_nan, (rounded_fadd hy hfin).not_nan⟩
  · have hinf : isInf x = true := by simpa [isInf] using hmag
    rw [fadd_inf_finite hinf hy, fadd_finite_inf hinf hy]
    exact ⟨hx, hx⟩

/-- A reciprocal of a number is a number: that of a zero is an infinity. -/
theorem not_nan_fdiv_fOne (hx : isNaN x = false) : isNaN (fdiv fOne x) = false := by
  have one : fFinite fOne := by decide
  rcases finite_or_inf hx with hfin | hmag
  · by_cases h0 : fMag x = 0
    · rw [fdiv_zero one hfin h0, if_neg (by decide), isNaN_packMag]
    · rw [fdiv_finite one hfin h0, isNaN_roundQuot]
  · rw [fdiv_finite_inf (by simpa [isInf] using hmag) one, isNaN_packMag]

theorem not_nan_fabs (hx : isNaN x = false) : isNaN (fabs x) = false := by
  rwa [isNaN, fMag_fabs hx]

/-- A number clamped to [-1.0, 1.0] is in that range. -/
theorem inUnitRange_fclamp (hx : isNaN x = false) : inUnitRange (fclamp x fMinusOne fOne) = true := by
  refine (fclamp_inUnitRange x).resolve_left ?_
  unfold fclamp
  split
  · decide
  · split
    · decide
    · simp [hx]

end

/-! ## The bounds of the tables (spec/42_nonlinear.md R319) -/

section
variable {x : F32}

/-- Of the bow table's operations only the first can meet a zero with an infinity, and finite values are neither
(spec/42_nonlinear.md R302). -/
theorem inUnit_bowOut {q : Bow} (hx : fFinite x) (hoffset : fFinite q.offset) (hslope : fFinite q.slope) :
    inUnit (bowOut q x) = true := by
  have arg : isNaN (bowArg q x) = false := (not_nan_fadd (rounded_fmul hx hslope).not_nan hoffset).1
  have base : isNaN (bowBase q x) = false := (not_nan_fadd (not_nan_fabs arg) (by decide)).1
  have raw : isNaN (bowRaw q x) = false := not_nan_fdiv_fOne (not_nan_fmul_self (not_nan_fmul_self base))
  refine (bowOut_inUnit q x).resolve_left ?_
  unfold bowOut
  split
  · decide
  · simp [raw]

theorem inUnitRange_reedOut {q : Reed} (hx : fFinite x) (hoffset : fFinite q.offset) (hslope : fFinite q.slope) :
    inUnitRange (reedOut q x) = true :=
  inUnitRange_fclamp (not_nan_fadd (rounded_fmul hslope hx).not_nan hoffset).2

/-- The cubic's factors are never a zero and an infinity: `x² - 1` is -1.0 at a zero and infinite at an infinity
(spec/42_nonlinear.md R308). -/
theorem inUnitRange_jetOut (hx : isNaN x = false) : inUnitRange (jetOut x) = true := by
  have one : fFinite (fneg fOne) := by decide
  have difference : isNaN (fsub (fmul x x) fOne) = false := (not_nan_fadd (not_nan_fmul_self hx) one).1
  refine inUnitRange_fclamp (not_nan_fmul hx difference (fun hinf => ?_) fun hinf hzero => ?_)
  · have square : isInf (fmul x x) = true := by
      rw [fmul_inf hx hx (.inl hinf) (fMag_ne_zero_of_inf hinf) (fMag_ne_zero_of_inf hinf)]
      simp [isInf, fMag_packMag]
    rw [fsub, fadd_inf_finite square one]
    exact fMag_ne_zero_of_inf square
  · have hfin : fFinite x := by rw [fFinite, hzero]; decide
    obtain ⟨square, value⟩ := fVal_fmul_zero hfin hfin (.inl (fVal_eq_zero.mpr hzero))
    have finite : fFinite (fsub (fmul x x) fOne) := (fVal_fadd_zero_left square one value).1
    rw [not_inf_of_finite finite] at hinf
    exact Bool.false_ne_true hinf

end

/-- Settles O37: finite operands and parameters meet no invalid operation, and what is no NaN is clamped. -/
theorem tableBoundsForFiniteOperands : Obligations.TableBoundsForFiniteOperands := fun b _ _ =>
  ⟨inUnit_bowOut, inUnitRange_reedOut, inUnitRange_jetOut, bowOut_inUnit b _, fclamp_inUnitRange _,
    fclamp_inUnitRange _⟩

/-- A bow table after BOW.SETSLOPE with positive infinity. -/
def steepBow : Bow := { Bow.reset with slope := 0x7F800000#32 }

/-- The slope times the operand is an infinity times 0.0 (spec/42_nonlinear.md R302). -/
theorem bowOut_steepBow_zero : bowOut steepBow fZero = fNaN := by decide

/-- Refutes O36: at 0.0 a bow table of infinite slope answers a NaN, and no parameter of it is one. -/
theorem not_tableBoundsForEveryNumber : ¬ Obligations.TableBoundsForEveryNumber := by
  intro h
  obtain ⟨bow, -, -⟩ := h steepBow Reed.reset fZero (by decide) (by decide) (by decide) (by decide) (by decide)
  rw [bowOut_steepBow_zero] at bow
  exact absurd bow (by decide)

/-! ## The table commands -/

/-- The decimal literal of R302. -/
theorem fDec_three_quarters : fDec 75 100 = 0x3F400000#32 := by decide

/-- Settles O35: each clause is the table's own operation written to its unit. -/
theorem scatteringTableCommands : Obligations.ScatteringTableCommands := by
  intro s u a x clamped
  refine ⟨fun q hq => ?bow, fun q hq => ?reed, fun q hq => ?jet⟩
  case bow =>
    have write (f : Bow → Bow) := command_write (units := State.bow) (put := State.setBow) (r := Bow.reset) hq rfl
      (startCommand_setBow s u) f
    have tick := command_tick (units := State.bow) (put := State.setBow) (r := Bow.reset) hq rfl
      (startCommand_setBow s u) (bowTick · x) (bowOut · x)
    rw [← fDec_three_quarters]
    exact ⟨write ({ · with offset := x }), write ({ · with slope := x }), tick⟩
  case reed =>
    have write (f : Reed → Reed) := command_write (units := State.reed) (put := State.setReed) (r := Reed.reset) hq rfl
      (startCommand_setReed s u) f
    have tick := command_tick (units := State.reed) (put := State.setReed) (r := Reed.reset) hq rfl
      (startCommand_setReed s u) (reedTick · x) (reedOut · x)
    exact ⟨write ({ · with offset := x }), write ({ · with slope := x }), tick⟩
  case jet =>
    exact command_tick (units := State.jet) (put := State.setJet) (r := Jet.reset) hq rfl
      (startCommand_setJet s u) (jetTick · x) fun _ => jetOut x

/-- One command leads from the reset state to the table that refutes R319. -/
theorem bowSetSlope_reset :
    exec (.bowSetSlope 0 0x7F800000#32) State.reset = .next (respond 0#32 [] (State.reset.setBow 0 steepBow)) :=
  ((scatteringTableCommands State.reset 0 0x7F800000#32).1 Bow.reset (by decide)).2.1

/-! ## The lip -/

section
variable {s : State} {u : Nat} {q : Lip}

/-- LIP.SETFREQRESON reads FS and the COS32 of the build, which the start of the command keeps
(spec/42_nonlinear.md R310). -/
theorem exec_lipSetFreqReson (hq : s.lip[u]? = some q) (a b : Word) :
    exec (.lipSetFreqReson u a b) s =
      .next (respond 0#32 []
        (s.setLip u { q with filter := bqSetFreqReson s.cosine s.fs q.filter (asF32 a) (asF32 b) })) :=
  (command_onUnit_getD (units := State.lip) hq rfl fun q t =>
    t.setLip u { q with filter := bqSetFreqReson t.cosine t.fs q.filter (asF32 a) (asF32 b) }).trans
    (congrArg _ (endCommand_start (s.setLip u _)))

/-- LIP.SETCOEF at a listed index (spec/42_nonlinear.md R315). -/
theorem exec_lipSetCoef (hq : s.lip[u]? = some q) {k : Nat} {a : Word} {p : Biquad}
    (hp : bqSetCoef q.filter k (asF32 a) = some p) :
    exec (.lipSetCoef u k a) s = .next (respond 0#32 [] (s.setLip u { q with filter := p })) := by
  have hat : s.lipAt u = q := by simp [State.lipAt, hq]
  obtain ⟨hu, -⟩ := List.getElem?_eq_some_iff.mp hq
  refine (command_onUnit hu (subLipSetCoef u k (asF32 a)) s).trans (congrArg _ ?_)
  simp [subLipSetCoef, hat, hp, endCommand_start]

end

/-- Settles O38: each clause is the lip's own operation, or the embedded biquad's, written to its unit. -/
theorem lipCommands : Obligations.LipCommands := by
  intro s u a b q hq g m p th w0 f w y put
  have write (f : Lip → Lip) := command_write (units := State.lip) (put := State.setLip) (r := Lip.reset) hq rfl
    (startCommand_setLip s u) f
  have tick := command_tick (units := State.lip) (put := State.setLip) (r := Lip.reset) hq rfl
    (startCommand_setLip s u) (lipTick · m p) (lipOut · m p)
  exact ⟨exec_lipSetFreqReson hq a b, write fun q => { q with filter := bqSetEqualGainZeroes q.filter }, tick,
    write lipClear, exec_lipSetCoef hq rfl, exec_lipSetCoef hq rfl, exec_lipSetCoef hq rfl, exec_lipSetCoef hq rfl,
    exec_lipSetCoef hq rfl⟩

end Sys2Proof.Machine

/-! The envelope commands (spec/43_envelopes.md R340 to R354): what a setter makes of its operand, what a tick does in each
state, and each command as one of these written to its unit. -/

namespace Sys2Proof.Machine

/-! ## Commands that warn of their operand -/

section
variable {s : State} {n u : Nat} {c : Bool} {w : Warning} {α : Type} {units : State → List α}
  {put : State → Nat → α → State} {q r : α}

/-- A command that writes its unit and warns on a condition. -/
theorem command_writeWarn (hq : (units s)[u]? = some q) (hstart : units (startCommand s) = units s)
    (hput : ∀ x, put (startCommand s) u x = startCommand (put s u x)) (c : Bool) (w : Warning) (f : α → α) :
    command (onUnit (units s).length u fun t => raiseIf c w (put t u (f ((units t).getD u r)))) s =
      .next (respond 0#32 (warnIf c w) (put s u (f q))) := by
  rw [command_onUnit_getD hq hstart fun q t => raiseIf c w (put t u (f q)), hput]
  cases c with
  | false => exact congrArg _ (endCommand_start _)
  | true => exact congrArg _ (endCommand_raise _ w)

/-- An operand that is not accepted changes nothing but the warning state. -/
theorem command_rejected (hu : u < n) (hc : c = true) (body : State → State) :
    command (onUnit n u fun t => if c then raise w t else body t) s = .next (respond 0#32 [w] s) := by
  rw [command_onUnit hu, if_pos hc, endCommand_raise]

theorem command_accepted (hc : c = false) (body : State → State) :
    command (onUnit n u fun t => if c then raise w t else body t) s = command (onUnit n u body) s := by
  simp [hc]

end

/-! ## Rates and levels -/

section
variable {x y : F32}

theorem not_flt_of_fle (h : fle x y = true) : flt y x = false := by
  obtain ⟨-, -, hle⟩ := fle_iff_fVal.mp h
  simp [← Bool.not_eq_true, flt_iff_fVal, hle]

theorem sanRate_of_nan (h : isNaN x = true) : sanRate x = fZero := if_pos h

theorem sanRate_of_neg (h : flt x fZero = true) : sanRate x = fabs x := by
  obtain ⟨hn, -, -⟩ := flt_iff_fVal.mp h
  simp [sanRate, hn, h]

theorem sanRate_of_nonneg (h : fle fZero x = true) : sanRate x = x := by
  obtain ⟨-, hn, -⟩ := fle_iff_fVal.mp h
  simp [sanRate, hn, not_flt_of_fle h]

theorem rateOut_of_nan_or_neg (h : isNaN x = true ∨ flt x fZero = true) : rateOut x = true := by simpa [rateOut] using h

theorem rateOut_of_nonneg (h : fle fZero x = true) : rateOut x = false := by
  obtain ⟨-, hn, -⟩ := fle_iff_fVal.mp h
  simp [rateOut, hn, not_flt_of_fle h]

theorem sustainLevel_of_neg (h : flt x fZero = true) : sustainLevel x = fZero := if_pos h

theorem sustainLevel_of_above (h : flt fOne x = true) : sustainLevel x = fOne := by
  obtain ⟨-, -, h1⟩ := flt_iff_fVal.mp h
  rw [fVal_fOne] at h1
  have low : ¬ flt x fZero = true := by simp [flt_iff_fVal, (zero_lt_one.trans h1).le]
  simp [sustainLevel, low, h]

theorem sustainLevel_of_inside (hlow : fle fZero x = true) (hhigh : fle x fOne = true) : sustainLevel x = x := by
  simp [sustainLevel, not_flt_of_fle hlow, not_flt_of_fle hhigh]

theorem sustainOut_of_neg_or_above (h : flt x fZero = true ∨ flt fOne x = true) : sustainOut x = true := by
  simpa [sustainOut] using h

theorem sustainOut_of_inside (hlow : fle fZero x = true) (hhigh : fle x fOne = true) : sustainOut x = false := by
  simp [sustainOut, not_flt_of_fle hlow, not_flt_of_fle hhigh]

end

/-! ## The linear envelope -/

section
variable {q : Env}

theorem envTick_of_done (h : q.state = .done) : envTick q = q := by simp [envTick, h]

theorem envTick_rising (h : q.state = .ramp) (below : flt q.value q.target = true) :
    envTick q = if fle q.target (fadd q.value q.rate) then { q with value := q.target, state := .done }
      else { q with value := fadd q.value q.rate } := by
  simp [envTick, envArrives, envMoved, h, below]

theorem envTick_falling (h : q.state = .ramp) (notBelow : flt q.value q.target = false) :
    envTick q = if fle (fsub q.value q.rate) q.target then { q with value := q.target, state := .done }
      else { q with value := fsub q.value q.rate } := by
  simp [envTick, envArrives, envMoved, h, notBelow]

end

section
variable {s : State} {u : Nat} {q : Env}

/-- Writing a unit as it stands changes nothing. -/
theorem State.setEnv_self (hq : s.env[u]? = some q) : s.setEnv u q = s := by
  obtain ⟨hu, rfl⟩ := List.getElem?_eq_some_iff.mp hq
  simp [State.setEnv]

theorem exec_envSetRate (hq : s.env[u]? = some q) (a : Word) :
    exec (.envSetRate u a) s = .next (respond 0#32 (warnIf (rateOut (asF32 a)) .paramRange)
      (s.setEnv u { q with rate := sanRate (asF32 a) })) :=
  command_writeWarn (units := State.env) (put := State.setEnv) (r := Env.reset) hq rfl (startCommand_setEnv s u) _ _
    fun q => { q with rate := sanRate (asF32 a) }

theorem exec_envTick (hq : s.env[u]? = some q) :
    exec (.envTick u) s = .next (respond (envTick q).value [] (s.setEnv u (envTick q))) :=
  command_tick (units := State.env) (put := State.setEnv) (r := Env.reset) hq rfl (startCommand_setEnv s u) envTick
    fun q => (envTick q).value

end

/-- Settles O39: a rate is sanitised, a NaN target or value is rejected, and every other one is written to the unit. -/
theorem envelopeSetters : Obligations.EnvelopeSetters := by
  intro s u a q hq x put aimed
  obtain ⟨hu, -⟩ := List.getElem?_eq_some_iff.mp hq
  have write (f : Env → Env) := command_write (units := State.env) (put := State.setEnv) (r := Env.reset) hq rfl
    (startCommand_setEnv s u) f
  have rate := exec_envSetRate hq a
  refine ⟨fun nan => ?rateNaN, fun neg => ?rateNeg, fun nonneg => ?rateNonneg, fun nan => command_rejected hu nan _,
    fun num => (command_accepted num _).trans (write (envAim · x)), fun nan => command_rejected hu nan _,
    fun num => (command_accepted num _).trans (write ({ · with value := x, target := x, state := .done })),
    write (envAim · fOne), write (envAim · fZero)⟩
  case rateNaN =>
    rw [rateOut_of_nan_or_neg (.inl nan), sanRate_of_nan nan] at rate
    exact rate
  case rateNeg =>
    rw [rateOut_of_nan_or_neg (.inr neg), sanRate_of_neg neg] at rate
    exact rate
  case rateNonneg =>
    rw [rateOut_of_nonneg nonneg, sanRate_of_nonneg nonneg] at rate
    exact rate

/-- Settles O40: the tick of the unit, by the direction of the ramp and by whether the step meets the target. -/
theorem envelopeTick : Obligations.EnvelopeTick := by
  intro s u q hq up down ends
  have ends_of {r : Env} (h : envTick q = r) : ends r := h ▸ exec_envTick hq
  refine ⟨fun done => ?done, fun ramp below => ?rising, fun ramp notBelow => ?falling⟩
  case done => rw [exec_envTick hq, envTick_of_done done, State.setEnv_self hq]
  case rising =>
    have tick := envTick_rising ramp below
    exact ⟨fun meets => ends_of (tick.trans (if_pos meets)),
      fun short => ends_of (tick.trans (if_neg (Bool.eq_false_iff.mp short)))⟩
  case falling =>
    have tick := envTick_falling ramp notBelow
    exact ⟨fun meets => ends_of (tick.trans (if_pos meets)),
      fun short => ends_of (tick.trans (if_neg (Bool.eq_false_iff.mp short)))⟩

/-! ## The ADSR envelope -/

section
variable {q : Adsr}

theorem adsrSetSustain_eq (q : Adsr) (v : F32) :
    adsrSetSustain q v = if q.state = .decay ∨ q.state = .sustain
      then { q with sustain := v, target := v, state := .decay } else { q with sustain := v } := by
  cases h : q.state <;> simp [adsrSetSustain, h]

theorem adsrTick_of_attack (h : q.state = .attack) :
    adsrTick q = if fle fOne (fadd q.value q.attack) then { q with value := fOne, target := q.sustain, state := .decay }
      else { q with value := fadd q.value q.attack } := by
  simp [adsrTick, adsrAttack, h]

theorem adsrTick_of_decay_above (h : q.state = .decay) (above : flt q.sustain q.value = true) :
    adsrTick q = if fle (fsub q.value q.decay) q.sustain then { q with value := q.sustain, state := .sustain }
      else { q with value := fsub q.value q.decay } := by
  simp [adsrTick, adsrDecay, h, above]

theorem adsrTick_of_decay_notAbove (h : q.state = .decay) (notAbove : flt q.sustain q.value = false) :
    adsrTick q = if fle q.sustain (fadd q.value q.decay) then { q with value := q.sustain, state := .sustain }
      else { q with value := fadd q.value q.decay } := by
  simp [adsrTick, adsrDecay, h, notAbove]

theorem adsrTick_of_release (h : q.state = .release) :
    adsrTick q = if fle (fsub q.value q.release) fZero then { q with value := fZero, state := .idle }
      else { q with value := fsub q.value q.release } := by
  simp [adsrTick, adsrRelease, h]

theorem adsrTick_of_resting (h : q.state = .sustain ∨ q.state = .idle) : adsrTick q = q := by
  rcases h with h | h <;> simp [adsrTick, h]

end

section
variable {s : State} {u : Nat} {q : Adsr}

/-- Writing a unit as it stands changes nothing. -/
theorem State.setAdsr_self (hq : s.adsr[u]? = some q) : s.setAdsr u q = s := by
  obtain ⟨hu, rfl⟩ := List.getElem?_eq_some_iff.mp hq
  simp [State.setAdsr]

theorem exec_adsrSetSustain (hq : s.adsr[u]? = some q) {a : Word} (num : isNaN (asF32 a) = false) :
    exec (.adsrSetSustain u a) s = .next (respond 0#32 (warnIf (sustainOut (asF32 a)) .paramRange)
      (s.setAdsr u (adsrSetSustain q (sustainLevel (asF32 a))))) :=
  (command_accepted num _).trans <|
    command_writeWarn (units := State.adsr) (put := State.setAdsr) (r := Adsr.reset) hq rfl (startCommand_setAdsr s u) _ _
      (adsrSetSustain · (sustainLevel (asF32 a)))

theorem exec_adsrTick (hq : s.adsr[u]? = some q) :
    exec (.adsrTick u) s = .next (respond (adsrTick q).value [] (s.setAdsr u (adsrTick q))) :=
  command_tick (units := State.adsr) (put := State.setAdsr) (r := Adsr.reset) hq rfl (startCommand_setAdsr s u) adsrTick
    fun q => (adsrTick q).value

end

/-- Settles O41: rates are sanitised, a NaN level is rejected, and every other level is clamped and set by the stage. -/
theorem adsrSetters : Obligations.AdsrSetters := by
  intro s u a q hq x put rate rateWarning leveled
  obtain ⟨hu, -⟩ := List.getElem?_eq_some_iff.mp hq
  have write (f : Adsr → Adsr) := command_write (units := State.adsr) (put := State.setAdsr) (r := Adsr.reset) hq rfl
    (startCommand_setAdsr s u) f
  have writeRate := command_writeWarn (units := State.adsr) (put := State.setAdsr) (r := Adsr.reset) hq rfl
    (startCommand_setAdsr s u) (rateOut x) .paramRange
  have level (num : isNaN x = false) := exec_adsrSetSustain hq num
  rw [adsrSetSustain_eq] at level
  refine ⟨writeRate ({ · with attack := sanRate x }), writeRate ({ · with decay := sanRate x }),
    writeRate ({ · with release := sanRate x }), fun nan => command_rejected hu nan _, fun neg => ?low, fun above => ?high,
    fun nonneg le => ?inside, write ({ · with target := fOne, state := .attack }),
    write ({ · with target := fZero, state := .release })⟩
  case low =>
    obtain ⟨num, -, -⟩ := flt_iff_fVal.mp neg
    rw [sustainOut_of_neg_or_above (.inl neg), sustainLevel_of_neg neg] at level
    exact level num
  case high =>
    obtain ⟨-, num, -⟩ := flt_iff_fVal.mp above
    rw [sustainOut_of_neg_or_above (.inr above), sustainLevel_of_above above] at level
    exact level num
  case inside =>
    obtain ⟨-, num, -⟩ := fle_iff_fVal.mp nonneg
    rw [sustainOut_of_inside nonneg le, sustainLevel_of_inside nonneg le] at level
    exact level num

/-- Settles O42: the tick of the unit, by stage and by whether the step meets its level. The name `adsrTick` is the
model's. -/
theorem adsrTickByStage : Obligations.AdsrTick := by
  intro s u q hq ends rise fall climb fade settled
  have ends_of {r : Adsr} (h : adsrTick q = r) : ends r := h ▸ exec_adsrTick hq
  refine ⟨fun ⟨stage, meets⟩ => ?peak, fun ⟨stage, short⟩ => ?attack, fun ⟨stage, above, meets⟩ => ?settleAbove,
    fun ⟨stage, above, short⟩ => ?decay, fun ⟨stage, notAbove, meets⟩ => ?settleBelow,
    fun ⟨stage, notAbove, short⟩ => ?climb, fun ⟨stage, meets⟩ => ?idle, fun ⟨stage, short⟩ => ?release,
    fun resting => ?resting⟩
  case peak => exact ends_of ((adsrTick_of_attack stage).trans (if_pos meets))
  case attack => exact ends_of ((adsrTick_of_attack stage).trans (if_neg (Bool.eq_false_iff.mp short)))
  case settleAbove => exact ends_of ((adsrTick_of_decay_above stage above).trans (if_pos meets))
  case decay => exact ends_of ((adsrTick_of_decay_above stage above).trans (if_neg (Bool.eq_false_iff.mp short)))
  case settleBelow => exact ends_of ((adsrTick_of_decay_notAbove stage notAbove).trans (if_pos meets))
  case climb => exact ends_of ((adsrTick_of_decay_notAbove stage notAbove).trans (if_neg (Bool.eq_false_iff.mp short)))
  case idle => exact ends_of ((adsrTick_of_release stage).trans (if_pos meets))
  case release => exact ends_of ((adsrTick_of_release stage).trans (if_neg (Bool.eq_false_iff.mp short)))
  case resting => rw [exec_adsrTick hq, adsrTick_of_resting resting, State.setAdsr_self hq]

end Sys2Proof.Machine

/-! The sources (spec/44_sources.md R380 to R387): the generator is linear in the bits, so that it is injective where
only zero maps to zero; the integer part of a legal phase; the frequency in effect; each command as the operation
of its unit, written to it. -/

namespace Sys2Proof.Machine

/-! ## The generator (spec/44_sources.md R381) -/

/-- Each shift and each exclusive or acts on the bits one by one. -/
theorem xorshift32_xor (x y : Word) : xorshift32 (x ^^^ y) = xorshift32 x ^^^ xorshift32 y := by
  have left (a b : Word) (k : Nat) : (a ^^^ b) ^^^ ((a ^^^ b) <<< k) = (a ^^^ (a <<< k)) ^^^ (b ^^^ (b <<< k)) := by
    rw [BitVec.shiftLeft_xor_distrib]
    ac_rfl
  have right (a b : Word) (k : Nat) : (a ^^^ b) ^^^ ((a ^^^ b) >>> k) = (a ^^^ (a >>> k)) ^^^ (b ^^^ (b >>> k)) := by
    rw [BitVec.ushiftRight_xor_distrib]
    ac_rfl
  simp only [xorshift32]
  rw [left x y 13, right _ _ 17, left _ _ 5]

/-- States with one image differ by a word that the generator maps to zero, and zero is the only one. -/
theorem xorshift32_injective : Function.Injective xorshift32 := by
  intro x y h
  by_contra hne
  refine xorshift32_ne_zero (x := x ^^^ y) (mt BitVec.xor_eq_zero_iff.mp hne) ?_
  rw [xorshift32_xor, h, BitVec.xor_self]

/-- Settles O44: the generator is linear with kernel zero, and a sample is a scaled int32. -/
theorem noiseGeneratorIsInvertibleAndBounded : Obligations.NoiseGeneratorIsInvertibleAndBounded :=
  ⟨fun _ _ h => xorshift32_injective h, fun _ hx => xorshift32_ne_zero hx, noiseSample_inUnitRange⟩

/-! ## The phase (spec/44_sources.md R385) -/

section
variable {x : F32} {n : Nat}

theorem ffloor_eq_toNat (hx : fFinite x) (h0 : 0 ≤ fVal x) : ffloor x = ⌊fVal x⌋.toNat := by
  rw [← ffloor_eq_floor hx h0, Int.toNat_natCast]

theorem ffloor_lt (hx : fFinite x) (h0 : 0 ≤ fVal x) (hn : fVal x < n) : ffloor x < n := by
  have hlt : (ffloor x : ℤ) < n := by
    rw [ffloor_eq_floor hx h0]
    exact Int.floor_lt.mpr (by exact_mod_cast hn)
  exact_mod_cast hlt

end

/-- The sample read at a phase inside the table: the index of its integer part needs no wrap. -/
theorem oscOut_eq {q : Osc} {k : Nat} (hk : ffloor q.phase = k) (hlt : k < q.len) :
    oscOut q = fadd (fmul (fsub fOne (fsub q.phase (fOfNat k))) (memRead q.tbl k))
      (fmul (fsub q.phase (fOfNat k)) (memRead q.tbl ((k + 1) % q.len))) := by
  rw [oscOut, oscFraction, hk, Nat.mod_eq_of_lt hlt]

section
variable {s : State} {u : Nat} {q : Osc}

theorem exec_oscTick (hq : s.osc[u]? = some q) :
    exec (.oscTick u) s = .next (respond (oscOut q) [] (s.setOsc u (oscTick q))) :=
  command_tick (units := State.osc) (put := State.setOsc) (r := Osc.reset 1) hq rfl (startCommand_setOsc s u) oscTick
    oscOut

end

/-- Settles O46: a legal phase has its integer part below T, so the tick reads the table there. -/
theorem oscillatorTick : Obligations.OscillatorTick := by
  intro s u q hq finite nonneg below
  have index := ffloor_eq_toNat finite nonneg
  have tick := exec_oscTick hq
  rw [oscTick, oscOut_eq index (index ▸ ffloor_lt finite nonneg below)] at tick
  exact tick

/-! ## The noise commands (spec/44_sources.md R380, R381) -/

theorem State.nsAt_of_getElem? {s : State} {u : Nat} {q : Noise} (h : s.ns[u]? = some q) : s.nsAt u = q := by
  simp [State.nsAt, List.getD_eq_getElem?_getD, h]

/-- A command of a sub-operation answers the value of the sub-operation and leaves its state. -/
theorem command_answerWith {s t : State} {n u : Nat} {y : Word} {sub : State → State × Word} (hu : u < n)
    (hsub : sub (startCommand s) = (startCommand t, y)) :
    command (onUnit n u fun r => answerWith (sub r)) s = .next (respond y [] t) := by
  rw [command_onUnit hu, hsub]
  exact congrArg _ (endCommand_answer t y)

section
variable {s : State} {u : Nat} {q : Noise}

theorem exec_nsSeed (hq : s.ns[u]? = some q) (a : Word) :
    exec (.nsSeed u a) s = .next (respond 0#32 (warnIf (a == 0#32) .paramRange)
      (s.setNs u { q with state := if a = 0#32 then 1#32 else a })) :=
  command_writeWarn (units := State.ns) (put := State.setNs) (r := Noise.reset) hq rfl (startCommand_setNs s u) _ _
    fun q => { q with state := if a = 0#32 then 1#32 else a }

theorem subNsTick_of_xorshift (model : s.noise = .xorshift32) :
    subNsTick u s = (s.setNs u (nsTickXorshift (s.nsAt u)), noiseSample (xorshift32 (s.nsAt u).state)) := by
  simp [subNsTick, model, nsTickXorshift]

theorem subNsTick_of_draw (model : s.noise = .draw) :
    subNsTick u s = ({ s.setNs u { s.nsAt u with last := drawSample s.drawCount } with drawCount := s.drawCount + 1 },
      drawSample s.drawCount) := by
  simp [subNsTick, model]

theorem exec_nsTick_of_xorshift (hq : s.ns[u]? = some q) (model : s.noise = .xorshift32) :
    exec (.nsTick u) s =
      .next (respond (noiseSample (xorshift32 q.state)) [] (s.setNs u (nsTickXorshift q))) := by
  obtain ⟨hu, -⟩ := List.getElem?_eq_some_iff.mp hq
  refine command_answerWith hu ((subNsTick_of_xorshift (s := startCommand s) model).trans ?_)
  rw [State.nsAt_of_getElem? (s := startCommand s) hq, startCommand_setNs]

theorem exec_nsTick_of_draw (hq : s.ns[u]? = some q) (model : s.noise = .draw) :
    exec (.nsTick u) s = .next (respond (drawSample s.drawCount) []
      { s.setNs u { q with last := drawSample s.drawCount } with drawCount := s.drawCount + 1 }) := by
  obtain ⟨hu, -⟩ := List.getElem?_eq_some_iff.mp hq
  refine command_answerWith hu ((subNsTick_of_draw (s := startCommand s) model).trans ?_)
  rw [State.nsAt_of_getElem? (s := startCommand s) hq]
  rfl

end

/-- Settles O43: a seed by whether it is zero, a tick by the noise model; the draw is the one that the counter picks. -/
theorem noiseCommands : Obligations.NoiseCommands := by
  intro s u a q hq x1 x2 x3 y
  have seed := exec_nsSeed hq
  refine ⟨fun ha => ?nonzero, seed 0#32, exec_nsTick_of_xorshift hq,
    fun model => ⟨_, drawSample_inUnitRange s.drawCount, exec_nsTick_of_draw hq model⟩⟩
  have kept := seed a
  rw [beq_false_of_ne ha, if_neg ha] at kept
  exact kept

/-! ## The oscillator commands (spec/44_sources.md R383, R384, R386, R387) -/

/-- The decimal literal of R383. -/
theorem fDec_half : fDec 5 10 = 0x3F000000#32 := by decide

theorem nyquist_eq (fs : F32) : nyquist fs = fmul fs 0x3F000000#32 := by rw [nyquist, fDec_half]

section
variable {fs f : F32}

theorem oscFreq_of_nan (h : isNaN f = true) : oscFreq fs f = fZero := if_pos h

theorem oscFreq_of_above (h : flt (nyquist fs) f = true) : oscFreq fs f = nyquist fs := by
  obtain ⟨-, num, -⟩ := flt_iff_fVal.mp h
  simp [oscFreq, num, h]

theorem oscFreq_of_below (notAbove : flt (nyquist fs) f = false) (h : flt f (fneg (nyquist fs)) = true) :
    oscFreq fs f = fneg (nyquist fs) := by
  obtain ⟨num, -, -⟩ := flt_iff_fVal.mp h
  simp [oscFreq, num, notAbove, h]

theorem oscFreq_of_inside (num : isNaN f = false) (notAbove : flt (nyquist fs) f = false)
    (notBelow : flt f (fneg (nyquist fs)) = false) : oscFreq fs f = f := by
  simp [oscFreq, num, notAbove, notBelow]

theorem oscFreqOut_eq_true
    (h : isNaN f = true ∨ flt (nyquist fs) f = true ∨ flt f (fneg (nyquist fs)) = true) :
    oscFreqOut fs f = true := by
  simpa [oscFreqOut, or_assoc] using h

theorem oscFreqOut_of_inside (num : isNaN f = false) (notAbove : flt (nyquist fs) f = false)
    (notBelow : flt f (fneg (nyquist fs)) = false) : oscFreqOut fs f = false := by
  simp [oscFreqOut, num, notAbove, notBelow]

end

section
variable {s : State} {u k : Nat} {q : Osc}

/-- OSC.SETFREQ reads the FS of the build, which the start of the command keeps (spec/44_sources.md R383). -/
theorem exec_oscSetFreq (hq : s.osc[u]? = some q) (a : Word) :
    exec (.oscSetFreq u a) s = .next (respond 0#32 (warnIf (oscFreqOut s.fs (asF32 a)) .paramRange)
      (s.setOsc u (oscSetFreq s.fs q (asF32 a)))) := by
  refine (command_onUnit_getD (units := State.osc) hq rfl fun q t =>
    raiseIf (oscFreqOut t.fs (asF32 a)) .paramRange (t.setOsc u (oscSetFreq t.fs q (asF32 a)))).trans (congrArg _ ?_)
  rw [startCommand_fs, startCommand_setOsc]
  cases oscFreqOut s.fs (asF32 a) with
  | false => exact endCommand_start _
  | true => exact endCommand_raise _ _

theorem exec_oscReset (hq : s.osc[u]? = some q) :
    exec (.oscReset u) s = .next (respond 0#32 [] (s.setOsc u (oscRestart q))) :=
  command_write (units := State.osc) (put := State.setOsc) (r := Osc.reset 1) hq rfl (startCommand_setOsc s u)
    oscRestart

theorem exec_oscTblWr (hq : s.osc[u]? = some q) (hk : k < q.len) (a : Word) :
    exec (.oscTblWr u k a) s =
      .next (respond 0#32 [] (s.setOsc u { q with tbl := memWrite q.tbl k (asF32 a) })) := by
  refine (command_onUnit_getD (units := State.osc) hq rfl fun q t =>
    if k < q.len then t.setOsc u { q with tbl := memWrite q.tbl k (asF32 a) } else refuse t).trans (congrArg _ ?_)
  rw [if_pos hk]
  exact endCommand_start (s.setOsc u _)

theorem exec_oscTblRd (hq : s.osc[u]? = some q) (hk : k < q.len) :
    exec (.oscTblRd u k) s = .next (respond (memRead q.tbl k) [] s) := by
  refine (command_onUnit_getD (units := State.osc) hq rfl fun q t =>
    if k < q.len then answer (memRead q.tbl k) t else refuse t).trans (congrArg _ ?_)
  rw [if_pos hk]
  exact endCommand_answer s _

end

/-- Settles O45: a frequency by its place against the Nyquist frequency, and a table index inside the table. -/
theorem oscillatorCommands : Obligations.OscillatorCommands := by
  intro s u k a q hq f nyq put at'
  have nyq_eq : nyquist s.fs = nyq := nyquist_eq s.fs
  have setFreq := exec_oscSetFreq hq a
  have atFreq {g : F32} {out : Bool} (hout : oscFreqOut s.fs f = out) (hg : oscFreq s.fs f = g) :
      exec (.oscSetFreq u a) s = .next (respond 0#32 (warnIf out .paramRange) (at' g)) := by
    rw [← hout, ← hg]
    exact setFreq
  rw [← nyq_eq]
  exact ⟨fun nan => atFreq (oscFreqOut_eq_true (.inl nan)) (oscFreq_of_nan nan),
    fun above => atFreq (oscFreqOut_eq_true (.inr (.inl above))) (oscFreq_of_above above),
    fun notAbove below => atFreq (oscFreqOut_eq_true (.inr (.inr below))) (oscFreq_of_below notAbove below),
    fun num notAbove notBelow => atFreq (oscFreqOut_of_inside num notAbove notBelow)
      (oscFreq_of_inside num notAbove notBelow),
    exec_oscReset hq, fun hk => exec_oscTblWr hq hk a, fun hk => exec_oscTblRd hq hk⟩

end Sys2Proof.Machine

/-! SUPPORT. The rules of the voice in closed form (spec/45_voice.md): what a rule leaves, said as the state it makes
and the warnings it raises in order, so that a command is read off its rule. Here the frequency contract, the voice reset
and the registers. -/

namespace Sys2Proof.Machine

/-! ## Warnings in order (spec/60_exceptions.md R532) -/

/-- `s` after the warnings `ws`, raised in this order. -/
def warned (ws : List Warning) (s : State) : State :=
  { s with rspWarn := s.rspWarn ||| warnMask ws, status := s.status ||| warnMask ws,
           lastWarn := lastCode s.lastWarn ws }

theorem warnMask_append (vs ws : List Warning) : warnMask (vs ++ ws) = warnMask vs ||| warnMask ws := by
  induction vs with
  | nil => simp [warnMask]
  | cons v vs ih => simp [warnMask, ih, BitVec.or_assoc]

theorem lastCode_append (old : BitVec 4) (vs ws : List Warning) :
    lastCode old (vs ++ ws) = lastCode (lastCode old vs) ws := by
  induction vs generalizing old with
  | nil => rfl
  | cons v vs ih => exact ih _

section
variable (s : State) (d f x : F32)

theorem warned_nil : warned [] s = s := by simp [warned, warnMask, lastCode]

theorem warned_warned (vs ws : List Warning) : warned ws (warned vs s) = warned (vs ++ ws) s := by
  simp [warned, warnMask_append, lastCode_append, BitVec.or_assoc]

theorem raise_eq_warned (w : Warning) : raise w s = warned [w] s := by simp [raise, warned, warnMask, lastCode]

theorem raiseIf_eq_warned (c : Bool) (w : Warning) : raiseIf c w s = warned (warnIf c w) s := by
  cases c
  · exact (warned_nil s).symm
  · exact raise_eq_warned s w

@[simp] theorem warnIf_true (w : Warning) : warnIf true w = [w] := rfl
@[simp] theorem warnIf_false (w : Warning) : warnIf false w = [] := rfl

/-! What warnings leave, and warnings moved outward past updates. `(rfl)` keeps these equations out of definitional
unfolding, which would evaluate the conditions of the warnings. -/

variable (ws : List Warning) (u : Nat)

@[simp] theorem warned_voice : (warned ws s).voice = s.voice := (rfl)
@[simp] theorem warned_dlAt : (warned ws s).dlAt u = s.dlAt u := (rfl)
@[simp] theorem warned_opAt : (warned ws s).opAt u = s.opAt u := (rfl)
@[simp] theorem warned_envAt : (warned ws s).envAt u = s.envAt u := (rfl)
@[simp] theorem warned_setDl (q : DelayLine) : (warned ws s).setDl u q = warned ws (s.setDl u q) := (rfl)
@[simp] theorem warned_setOp (q : OnePole) : (warned ws s).setOp u q = warned ws (s.setOp u q) := (rfl)
@[simp] theorem warned_setEnv (q : Env) : (warned ws s).setEnv u q = warned ws (s.setEnv u q) := (rfl)
@[simp] theorem warned_setVoice (v : Voice) : (warned ws s).setVoice v = warned ws (s.setVoice v) := (rfl)

/-- The response to a rule that answers no word. -/
theorem endCommand_warned : endCommand (warned ws (startCommand s)) = respond 0#32 ws s := by
  simp [endCommand, warned, startCommand, respond]

/-- A VOICE command with an instrument responds with what its rule makes of the cleared response. -/
theorem voiceCommand_responds {s t : State} {body : State → State} {ws : List Warning} (h : s.voice.instr ≠ .none)
    (hbody : body (startCommand s) = warned ws (startCommand t)) :
    command (onVoice body) s = .next (respond 0#32 ws t) := by
  rw [command_onVoice h, hbody, endCommand_warned]

/-! ## The frequency contract (spec/45_voice.md R425, R426) -/

theorem subDlSetDelay_eq : subDlSetDelay u x s =
    warned (warnIf (dlLagOut (s.dlAt u).len x) .delayRange) (s.setDl u (dlSetDelay (s.dlAt u) x)) :=
  raiseIf_eq_warned _ _ _

/-- Bowed and Flute (spec/45_voice.md R426). -/
theorem distribute_of_twoLines (h : twoLines s.voice.instr = true) : distribute d s =
    subDlSetDelay 1 (fmul d s.voice.ratio) (subDlSetDelay 0 (fmul d (fsub fOne s.voice.ratio)) s) := by
  cases hi : s.voice.instr <;> simp_all [distribute, twoLines]

theorem distribute_of_oneLine (h : twoLines s.voice.instr = false) :
    distribute d s = subDlSetDelay 0 (fmul d s.voice.ratio) s := by
  cases hi : s.voice.instr <;> simp_all [distribute, twoLines]

theorem distribute_eq : distribute d s = warned (distributeWarnings s d) { s with dl := distributedLines s d } := by
  cases h : twoLines s.voice.instr with
  | true =>
    rw [distribute_of_twoLines s d h, subDlSetDelay_eq, subDlSetDelay_eq]
    simp [distributeWarnings, distributedLines, shareOfLine0, h, warned_warned, State.dlAt_setDl]
    rfl
  | false =>
    rw [distribute_of_oneLine s d h, subDlSetDelay_eq]
    simp [distributeWarnings, distributedLines, shareOfLine0, h]
    rfl

theorem setFreq_eq : setFreq f s = warned (tuneWarnings s f) (tuned s f) := by
  simp only [setFreq, raiseIf_eq_warned, distribute_eq, tuneWarnings, ← warned_warned]
  split
  next brass => simp only [tuned, tunedLips, if_pos (show s.voice.instr = .brass from brass)]; rfl
  next other => simp only [tuned, tunedLips, if_neg (show s.voice.instr ≠ .brass from other)]; rfl

/-! ## The voice reset (spec/45_voice.md R434) -/

theorem voiceReset_eq : voiceReset s = quieted s := by
  have env0 (t : State) : subEnvSetValue 0 fZero t =
      t.setEnv 0 { t.envAt 0 with value := fZero, target := fZero, state := .done } := if_neg (by decide)
  have line1 : (s.setDl 0 (dlClear (s.dlAt 0))).dlAt 1 = s.dlAt 1 := by simp [State.dlAt_setDl]
  have pole1 (t : State) : (t.setOp 0 (opClear (t.opAt 0))).opAt 1 = t.opAt 1 := by simp [State.opAt_setOp]
  simp only [voiceReset, subDlClear, subOpClear, subOzClear, subPzClear, subBqClear, subLipClear, subOscReset, env0,
    line1, pole1]
  simp only [State.setDl, State.setOp, State.setOz, State.setPz, State.setBq, State.setLip, State.setEnv, State.setOsc,
    State.setVoice, quieted]
  rfl

/-! ## The cleared response and the warnings moved outward -/

theorem tuned_startCommand : tuned (startCommand s) f = startCommand (tuned s f) := (rfl)
theorem tuneWarnings_startCommand : tuneWarnings (startCommand s) f = tuneWarnings s f := (rfl)
theorem tuned_warned : tuned (warned ws s) f = warned ws (tuned s f) := (rfl)
theorem tuneWarnings_warned : tuneWarnings (warned ws s) f = tuneWarnings s f := (rfl)
theorem quieted_startCommand : quieted (startCommand s) = startCommand (quieted s) := (rfl)
theorem quieted_warned : quieted (warned ws s) = warned ws (quieted s) := (rfl)

end

/-- Settles O47: the closed forms of the two rules, from the cleared response. -/
theorem voiceTuningAndReset : Obligations.VoiceTuningAndReset := by
  intro s a _ hinstr
  constructor
  · refine voiceCommand_responds (body := setFreq (asF32 a)) hinstr ?_
    rw [setFreq_eq, tuned_startCommand, tuneWarnings_startCommand]
  · refine voiceCommand_responds (body := voiceReset) hinstr ?_
    rw [voiceReset_eq, quieted_startCommand, warned_nil]

/-- Settles O23: every VOICE command but the three runs its rule behind the check for an instrument. -/
theorem withoutAnInstrumentVoiceCommandsStop : Obligations.WithoutAnInstrumentVoiceCommandsStop := by
  intro i s hvoice hset hrd hwr hnone
  cases i with
  | vNoteOn | vNoteOff | vSetFreq | vTick | vCc | vReset | vLastOut => exact command_onVoice_none hnone _
  | vSetInstr k => exact absurd rfl (hset k)
  | vRdReg k => exact absurd rfl (hrd k)
  | vWrReg k v => exact absurd rfl (hwr k v)
  | _ => cases hvoice

/-! ## Registers (spec/45_voice.md R435 to R437) -/

/-- Each parameter register is one word of the voice (spec/10_state.md R49). -/
theorem exists_voiceSet (v : Voice) (x : F32) {k : Nat} (hk : k < 16) :
    ∃ u : Voice, voiceSet v (8 + k) x = some u ∧ u.instr = v.instr ∧ u.vstate = v.vstate ∧
      u.floats = v.floats.set (4 + k) x := by
  interval_cases k <;> exact ⟨_, rfl, rfl, rfl, rfl⟩

theorem exec_vRdReg_of_listed {s : State} {k : Nat} {w : Word} (h : voiceReg s.voice k = some w) :
    exec (.vRdReg k) s = .next (respond w [] s) := by
  show command (fun t => answerReg (voiceReg t.voice k) t) s = _
  rw [command_eq, startCommand_voice, h, endCommand_answerReg]

theorem exec_vWrReg_of_listed {s : State} {k : Nat} {a : Word} {u : Voice}
    (h : voiceSet s.voice k (asF32 a) = some u) : exec (.vWrReg k a) s = .next (respond 0#32 [] (s.setVoice u)) := by
  simp only [exec, execVWrReg, command_eq, startCommand_voice, h, startCommand_setVoice, endCommand_start]

/-- Settles O57: both lists are rows of the table, and each parameter is one word of the voice. -/
theorem voiceRegisters : Obligations.VoiceRegisters := by
  intro s k a w v status params
  have statusRows : (List.range status.length).map (voiceReg v) = status.map some := by
    simp only [status]
    clear_value v
    obtain ⟨instr, vstate⟩ := v
    cases instr <;> cases vstate <;> rfl
  refine ⟨fun hw => exec_vRdReg_of_listed (row_of_listed statusRows hw),
    fun hw => exec_vRdReg_of_listed (row_of_listed (table := fun k => voiceReg v (8 + k)) (rows := params) rfl hw),
    fun hk => ?_, fun hinstr => ?_⟩
  · obtain ⟨u, hset, hinstr, hvstate, hfloats⟩ := exists_voiceSet v (asF32 a) hk
    exact ⟨u, hinstr, hvstate, hfloats, exec_vWrReg_of_listed hset⟩
  · exact (command_onVoice hinstr _).trans (congrArg _ (endCommand_answer s _))

end Sys2Proof.Machine

/-! Notes (spec/45_voice.md R428, R429): the excitation envelope sent to a target, and the pluck as an iterated tick
(spec/46_voice_topologies.md R475). -/

namespace Sys2Proof.Machine

section
variable (s : State) (f amp x : F32) (ws : List Warning)

/-! ## The excitation envelope -/

/-- An envelope sent to `goal` at `rate`: a NaN goal sets the rate only (spec/43_envelopes.md R341, R342). -/
def envSent (e : Env) (rate goal : F32) : Env :=
  if isNaN goal then { e with rate := sanRate rate } else envAim { e with rate := sanRate rate } goal

/-- The warnings of an envelope sent to `goal` at `rate`. -/
def envSentWarnings (rate goal : F32) : List Warning :=
  warnIf (rateOut rate) .paramRange ++ warnIf (isNaN goal) .paramRange

theorem State.setEnv_setEnv (u : Nat) (p q : Env) : (s.setEnv u p).setEnv u q = s.setEnv u q := by
  simp [State.setEnv]

/-- The rate before the target, each with its warning. -/
theorem sendEnv_eq (h : 0 < s.env.length) (rate goal : F32) :
    subEnvSetTarget 0 goal (subEnvSetRate 0 rate s) =
      warned (envSentWarnings rate goal) (s.setEnv 0 (envSent (s.envAt 0) rate goal)) := by
  simp only [subEnvSetRate, raiseIf_eq_warned, subEnvSetTarget, envSentWarnings, envSent]
  cases isNaN goal with
  | true => simp [raise_eq_warned, warned_warned]
  | false => simp [h, State.setEnv_setEnv]

/-! ## Note-on (spec/45_voice.md R428) -/

/-- AMP written. -/
def State.withAmp : State := s.setVoice { s.voice with amp := x }

/-- VSTATE written. -/
def State.withVState (v : VoiceState) : State := s.setVoice { s.voice with vstate := v }

/-- LOOP_GAIN written. -/
def State.withLoopGain : State := s.setVoice { s.voice with loopGain := x }

@[simp] theorem warned_withAmp : (warned ws s).withAmp x = warned ws (s.withAmp x) := (rfl)
@[simp] theorem warned_withLoopGain : (warned ws s).withLoopGain x = warned ws (s.withLoopGain x) := (rfl)
@[simp] theorem warned_withVState (v : VoiceState) : (warned ws s).withVState v = warned ws (s.withVState v) := (rfl)

theorem tuned_withAmp : tuned (s.withAmp x) f = (tuned s f).withAmp x := (rfl)
theorem tuneWarnings_withAmp : tuneWarnings (s.withAmp x) f = tuneWarnings s f := (rfl)

/-- A note-on is the amplitude, the frequency contract, the excitation, and VSTATE. -/
theorem noteOn_eq_excited : noteOn f amp s =
    (startExcitation (unitClamp amp) (warned (warnIf (unitOut amp) .ampRange ++ tuneWarnings s f)
      ((tuned s f).withAmp (unitClamp amp)))).withVState .sounding := by
  have steps : noteOn f amp s = (startExcitation (unitClamp amp)
      (setFreq f ((raiseIf (unitOut amp) .ampRange s).withAmp (unitClamp amp)))).withVState .sounding := rfl
  rw [steps, raiseIf_eq_warned, setFreq_eq, warned_withAmp, tuned_warned, tuneWarnings_warned, tuned_withAmp,
    tuneWarnings_withAmp, warned_warned]

theorem startExcitation_of_ne_plucked (hp : s.voice.instr ≠ .plucked) (h : 0 < s.env.length) :
    startExcitation x s = warned (envSentWarnings s.voice.attackRate (noteTarget s.voice x))
      (s.setEnv 0 (envSent (s.envAt 0) s.voice.attackRate (noteTarget s.voice x))) := by
  rw [startExcitation, if_neg hp, ← sendEnv_eq s h]

theorem noteOn_of_ne_plucked (hp : s.voice.instr ≠ .plucked) (h : 0 < s.env.length) :
    noteOn f amp s = warned (warnIf (unitOut amp) .ampRange ++ tuneWarnings s f ++
        envSentWarnings s.voice.attackRate (noteTarget s.voice (unitClamp amp)))
      ((((tuned s f).withAmp (unitClamp amp)).setEnv 0
        (envSent (s.envAt 0) s.voice.attackRate (noteTarget s.voice (unitClamp amp)))).withVState .sounding) := by
  rw [noteOn_eq_excited, startExcitation_of_ne_plucked (s := warned _ ((tuned s f).withAmp _)) _ hp h, warned_setEnv,
    warned_warned, warned_withVState]
  rfl

end

theorem State.envAt_of_cons {s : State} {e : Env} {es : List Env} (h : s.env = e :: es) : s.envAt 0 = e := by
  simp [State.envAt, h]

theorem State.setEnv_of_cons {s : State} {e : Env} {es : List Env} (h : s.env = e :: es) (q : Env) :
    s.setEnv 0 q = { s with env := q :: es } := by
  simp [State.setEnv, h]

/-- Settles O48: `noteOn_of_ne_plucked` from the cleared response. -/
theorem voiceNoteOn : Obligations.VoiceNoteOn := by
  intro s f a e es _ hinstr hp henv x amp rate goal sane started t
  refine voiceCommand_responds (body := noteOn (asF32 f) x) hinstr ?_
  rw [noteOn_of_ne_plucked (startCommand s) _ _ hp (by simp [henv]), State.envAt_of_cons (s := startCommand s) henv,
    State.setEnv_of_cons (s := (tuned (startCommand s) (asF32 f)).withAmp (unitClamp x)) henv]
  exact congrArg₂ warned (List.append_assoc _ _ _).symm rfl

/-! ## Note-off (spec/45_voice.md R429) -/

section
variable (s : State) (amp : F32)

/-- VSTATE after a note-off: a Sounding voice is Releasing (spec/45_voice.md R422). -/
def releasedState (v : VoiceState) : VoiceState := if v = .sounding then .releasing else v

theorem noteOff_eq_released : noteOff amp s =
    let r := releaseExcitation (unitClamp amp) (warned (warnIf (unitOut amp) .ampRange) s)
    r.withVState (releasedState r.voice.vstate) := by
  simp only [noteOff, raiseIf_eq_warned, releasedState]
  split <;> rfl

theorem noteOff_of_plucked (hp : s.voice.instr = .plucked) :
    noteOff amp s = warned (warnIf (unitOut amp) .ampRange)
      ((s.withLoopGain (fsub fOne (unitClamp amp))).withVState (releasedState s.voice.vstate)) := by
  rw [noteOff_eq_released, releaseExcitation, if_pos (by exact hp)]
  rfl

theorem noteOff_of_ne_plucked (hp : s.voice.instr ≠ .plucked) (h : 0 < s.env.length) :
    noteOff amp s = warned (warnIf (unitOut amp) .ampRange ++
        envSentWarnings (fmul s.voice.releaseScale (unitClamp amp)) fZero)
      ((s.setEnv 0 (envSent (s.envAt 0) (fmul s.voice.releaseScale (unitClamp amp)) fZero)).withVState
        (releasedState s.voice.vstate)) := by
  rw [noteOff_eq_released, releaseExcitation, if_neg (by exact hp), sendEnv_eq (warned _ s) h]
  simp only [warned_voice, warned_envAt, warned_setEnv, warned_warned, warned_withVState, State.setEnv_voice]

end

/-- Settles O51: 0.0 is no NaN, so the ramp to it warns of its rate only. -/
theorem voiceNoteOff : Obligations.VoiceNoteOff := by
  intro s a e es hinstr henv x amp ws state rate sane
  constructor
  · intro hp
    refine voiceCommand_responds (body := noteOff x) hinstr ?_
    rw [noteOff_of_plucked (startCommand s) _ hp]
    rfl
  · intro hp
    have goal : isNaN fZero = false := by decide
    refine voiceCommand_responds (body := noteOff x) hinstr ?_
    rw [noteOff_of_ne_plucked (startCommand s) _ hp (by simp [henv]), State.envAt_of_cons (s := startCommand s) henv,
      State.setEnv_of_cons (s := startCommand s) henv, envSentWarnings, envSent, goal, warnIf_false, List.append_nil]
    rfl

/-! ## The pluck (spec/46_voice_topologies.md R475) -/

section
variable (s : State) (f amp x : F32) (ws : List Warning)

theorem subNsTick_eq (u : Nat) : subNsTick u s =
    ({ s.setNs u (noiseAfter s (s.nsAt u)) with drawCount := drawsAfter s }, (noiseAfter s (s.nsAt u)).last) := by
  unfold subNsTick noiseAfter drawsAfter
  cases s.noise <;> rfl

theorem pluckTick_warned : pluckTick (warned ws s) = warned ws (pluckTick s) := by
  simp only [pluckTick, subNsTick_eq]
  rfl

theorem pluckTick_startCommand : pluckTick (startCommand s) = startCommand (pluckTick s) := by
  simp only [pluckTick, subNsTick_eq]
  rfl

theorem pluckTick_voice : (pluckTick s).voice = s.voice := by
  simp only [pluckTick, subNsTick_eq]
  rfl

theorem pluckTicks_eq_iterate (n : Nat) : pluckTicks n s = pluckTick^[n] s := by
  induction n generalizing s with
  | zero => rfl
  | succ n ih => exact ih (pluckTick s)

theorem iterate_pluckTick_warned (n : Nat) : pluckTick^[n] (warned ws s) = warned ws (pluckTick^[n] s) :=
  ((show Function.Commute (warned ws) pluckTick from fun s => (pluckTick_warned s ws).symm).iterate_right n s).symm

theorem iterate_pluckTick_startCommand (n : Nat) : pluckTick^[n] (startCommand s) = startCommand (pluckTick^[n] s) :=
  ((show Function.Commute startCommand pluckTick from fun s => (pluckTick_startCommand s).symm).iterate_right n s).symm

theorem iterate_pluckTick_voice (n : Nat) : (pluckTick^[n] s).voice = s.voice :=
  congrFun (Function.iterate_invariant (g := State.voice) (funext pluckTick_voice) n) s

/-- OP1 as a pluck sets it; the words are 0.999, 0.15 and 0.5 (spec/46_voice_topologies.md R475). -/
def pickFilter (q : OnePole) : OnePole :=
  opSetGain (opSetPole q (fsub 0x3F7FBE77#32 (fmul 0x3E19999A#32 amp))) (fmul 0x3F000000#32 amp)

theorem pluck_words : fDec 999 1000 = 0x3F7FBE77#32 ∧ fDec 15 100 = 0x3E19999A#32 ∧ fDec 5 10 = 0x3F000000#32 := by
  decide

theorem State.setOp_setOp (u : Nat) (p q : OnePole) : (s.setOp u p).setOp u q = s.setOp u q := by
  simp [State.setOp]

theorem pluckFill_eq (h : 1 < s.op.length) :
    pluckFill amp s = pluckTick^[(s.dlAt 0).len] (s.setOp 1 (pickFilter amp (s.opAt 1))) := by
  simp only [pluckFill, subOpSetPole, subOpSetGain, pluck_words, State.opAt_setOp_self _ _ _ h, State.setOp_setOp,
    pluckTicks_eq_iterate]
  rfl

theorem pluckFill_warned : pluckFill amp (warned ws s) = warned ws (pluckFill amp s) := by
  simp only [pluckFill, pluckTicks_eq_iterate, subOpSetPole, subOpSetGain, warned_opAt, warned_setOp, warned_dlAt,
    iterate_pluckTick_warned]

/-- Tuning keeps the lengths of the lines (spec/00_scope.md R12). -/
theorem tuned_dlAt_len : ((tuned s f).dlAt 0).len = (s.dlAt 0).len := by
  unfold tuned distributedLines State.dlAt
  cases s.dl <;> cases twoLines s.voice.instr <;> simp [dlSetDelay]

theorem startExcitation_of_plucked (hp : s.voice.instr = .plucked) :
    startExcitation x s = pluckFill x (s.withLoopGain s.voice.loopGainOn) := if_pos hp

theorem noteOn_of_plucked (hp : s.voice.instr = .plucked) (h : 1 < s.op.length) :
    noteOn f amp s = warned (warnIf (unitOut amp) .ampRange ++ tuneWarnings s f)
      ((pluckTick^[(s.dlAt 0).len] ((((tuned s f).withAmp (unitClamp amp)).withLoopGain s.voice.loopGainOn).setOp 1
        (pickFilter (unitClamp amp) (s.opAt 1)))).withVState .sounding) := by
  rw [noteOn_eq_excited, startExcitation_of_plucked (s := warned _ ((tuned s f).withAmp _)) _ hp, warned_withLoopGain,
    pluckFill_warned, pluckFill_eq (s := ((tuned s f).withAmp _).withLoopGain _) _ h, warned_withVState,
    ← tuned_dlAt_len s f]
  rfl

end

theorem pluckTick_of_cons {s : State} {n : Noise} {ns : List Noise} {p0 p1 : OnePole} {ops : List OnePole}
    {d : DelayLine} {ds : List DelayLine} (hns : s.ns = n :: ns) (hop : s.op = p0 :: p1 :: ops) (hdl : s.dl = d :: ds) :
    pluckTick s = { s with
      ns := noiseAfter s n :: ns, op := p0 :: opTick p1 (noiseAfter s n).last :: ops,
      dl := dlTick d (opTick p1 (noiseAfter s n).last).last :: ds, drawCount := drawsAfter s } := by
  simp [pluckTick, subNsTick_eq, subOpTick, subDlTick, State.setNs, State.setOp, State.setDl, State.nsAt, State.opAt,
    State.dlAt, hns, hop, hdl]
  rfl

theorem State.opAt_one_of_cons {s : State} {p0 p1 : OnePole} {ops : List OnePole} (h : s.op = p0 :: p1 :: ops) :
    s.opAt 1 = p1 := by
  simp [State.opAt, h]

theorem State.setOp_one_of_cons {s : State} {p0 p1 : OnePole} {ops : List OnePole} (h : s.op = p0 :: p1 :: ops)
    (q : OnePole) : s.setOp 1 q = { s with op := p0 :: q :: ops } := by
  simp [State.setOp, h]

/-- Settles O49: the fill is an iterated tick, which keeps the voice, warns of nothing and leaves the response alone. -/
theorem pluckedNoteOn : Obligations.PluckedNoteOn := by
  refine ⟨?_, fun s n ns p0 p1 ops d ds hns hop hdl => pluckTick_of_cons hns hop hdl⟩
  intro s f a p0 p1 ops _ hp hop x amp pole gain pick t ready filled
  have hinstr : s.voice.instr ≠ .none := by simp [hp]
  have readied : (((tuned (startCommand s) (asF32 f)).withAmp (unitClamp x)).withLoopGain
      (startCommand s).voice.loopGainOn).setOp 1 (pickFilter (unitClamp x) p1) = startCommand ready := by
    rw [State.setOp_one_of_cons (p0 := p0) (p1 := p1) (ops := ops) (by exact hop)]
    rfl
  have filled_voice : filled.voice = ready.voice := iterate_pluckTick_voice ready _
  refine voiceCommand_responds (body := noteOn (asF32 f) x) hinstr ?_
  rw [noteOn_of_plucked (startCommand s) _ _ hp (by simp [hop]), State.opAt_one_of_cons (s := startCommand s) hop,
    readied, iterate_pluckTick_startCommand, ← filled_voice]
  rfl

end Sys2Proof.Machine

/-! The controller map (spec/45_voice.md R432, R433): a listed pair is its action on the clamped value. -/

namespace Sys2Proof.Machine

/-! ## Controllers -/

section
variable {s t : State} {num : Nat} {act : F32 → State → State} {ws : List Warning}

/-- A listed controller clamps its value, with W_CTRL_RANGE, and runs the action of its pair. -/
theorem exec_vCc_of_listed (hinstr : s.voice.instr ≠ .none) (a : Word) (hact : ccAction s.voice.instr num = some act)
    (heff : ∀ vs, act (unitClamp (asF32 a)) (warned vs (startCommand s)) = warned (vs ++ ws) (startCommand t)) :
    exec (.vCc num a) s =
      .next (respond 0#32 (warnIf (unitOut (asF32 a)) .ctrlRange ++ ws) t) := by
  refine voiceCommand_responds (body := controlChange num (asF32 a)) hinstr ?_
  rw [controlChange, startCommand_voice, hact, ← heff, ← raiseIf_eq_warned]

/-- A listed controller whose action raises no warning. -/
theorem exec_vCc_of_quiet (hinstr : s.voice.instr ≠ .none) (a : Word) (hact : ccAction s.voice.instr num = some act)
    (heff : ∀ vs, act (unitClamp (asF32 a)) (warned vs (startCommand s)) = warned vs (startCommand t)) :
    exec (.vCc num a) s = .next (respond 0#32 (warnIf (unitOut (asF32 a)) .ctrlRange) t) := by
  rw [exec_vCc_of_listed hinstr a hact (ws := []) (fun vs => by rw [List.append_nil, heff]), List.append_nil]

theorem exec_vCc_of_unlisted (hinstr : s.voice.instr ≠ .none) (a : Word) (hact : ccAction s.voice.instr num = none) :
    exec (.vCc num a) s = .next (respond 0#32 [.ctrlUnknown] s) := by
  refine voiceCommand_responds (body := controlChange num (asF32 a)) hinstr ?_
  rw [controlChange, startCommand_voice, hact, ← raise_eq_warned]

end

/-- The decimals of R433 as words. -/
theorem controller_words : fDec 4 10 = 0x3ECCCCCD#32 ∧ fDec 5 10 = 0x3F000000#32 ∧ fDec 5 1 = 0x40A00000#32 ∧
    fDec 4 1 = 0x40800000#32 ∧ fDecNeg 44 100 = 0xBEE147AE#32 ∧ fDec 26 100 = 0x3E851EB8#32 ∧
    fDec 27236 1000000 = 0x3CDF1E08#32 ∧ fDec 2 10 = 0x3E4CCCCD#32 ∧ fDec 12 1 = 0x41400000#32 := by decide

/-- The pairs that the map does not list (spec/45_voice.md R433). -/
theorem ccAction_unlisted {i : Instrument} {num : Nat}
    (h : num ∉ [1, 2, 4, 11] ∨ i = .plucked ∨ (num = 2 ∧ i ≠ .bowed ∧ i ≠ .clarinet) ∨ (num = 4 ∧ i = .brass)) :
    ccAction i num = none := by
  unfold ccAction
  split
  case h_14 => rfl
  all_goals simp at h

theorem ccAction_vibrato {i : Instrument} (hn : i ≠ .none) (hp : i ≠ .plucked) :
    ccAction i 1 = some (ccVibrato (if i = .clarinet then 0x3F000000#32 else 0x3ECCCCCD#32)) := by
  cases i with
  | none => exact absurd rfl hn
  | plucked => exact absurd rfl hp
  | clarinet => simp [ccAction, controller_words]
  | bowed | flute | brass => simp [ccAction, controller_words]

theorem ccAction_rate {i : Instrument} (hn : i ≠ .none) (hp : i ≠ .plucked) : ccAction i 11 = some ccRate := by
  cases i with
  | none => exact absurd rfl hn
  | plucked => exact absurd rfl hp
  | bowed | clarinet | flute | brass => rfl

theorem ccPosition_eq (s : State) (v : F32) :
    let t := s.setVoice { s.voice with ratio := fadd 0x3CDF1E08#32 (fmul 0x3E4CCCCD#32 v) }
    ccPosition v s = warned (distributeWarnings t s.voice.baseDelay)
      { t with dl := distributedLines t s.voice.baseDelay } := by
  simp only [ccPosition, controller_words, distribute_eq]
  rfl

/-- Settles O55: each listed pair runs its action, which warns of its own operand only. -/
theorem controllerMap : Obligations.ControllerMap := by
  intro s num a _ hinstr i raw x ws depth moved
  refine ⟨?vibrato, ?bow, ?reed, ?position, ?noise, ?rate, fun h => exec_vCc_of_unlisted hinstr a (ccAction_unlisted h)⟩
  case vibrato =>
    rintro rfl hp
    exact exec_vCc_of_quiet hinstr a (ccAction_vibrato hinstr hp) fun _ => rfl
  case bow =>
    rintro rfl hi
    have row : ccAction i 2 = some (fun v => subBowSetSlope 0 (fsub 0x40A00000#32 (fmul 0x40800000#32 v))) := by
      simp [hi, ccAction, controller_words]
    exact exec_vCc_of_quiet hinstr a row fun _ => rfl
  case reed =>
    rintro rfl hi
    have row : ccAction i 2 = some (fun v => subReedSetSlope 0 (fadd 0xBEE147AE#32 (fmul 0x3E851EB8#32 v))) := by
      simp [hi, ccAction, controller_words]
    exact exec_vCc_of_quiet hinstr a row fun _ => rfl
  case position =>
    rintro rfl hi
    have row : ccAction i 4 = some ccPosition := by simp [hi, ccAction]
    refine exec_vCc_of_listed hinstr a row fun vs => ?_
    rw [ccPosition_eq, ← warned_warned]
    rfl
  case noise =>
    rintro rfl hi
    have row : ccAction i 4 = some ccNoise := by rcases hi with hi | hi <;> simp [hi, ccAction]
    refine exec_vCc_of_quiet hinstr a row fun vs => ?_
    simp only [ccNoise, controller_words]
    rfl
  case rate =>
    rintro rfl hp
    refine exec_vCc_of_listed hinstr a (ccAction_rate hinstr hp) fun vs => ?_
    simp only [ccRate, controller_words, subOscSetFreq, raiseIf_eq_warned, ← warned_warned]
    rfl

end Sys2Proof.Machine

/-! Instrument selection (spec/45_voice.md R423, R424): the units and the parameters of each instrument, then the voice
reset and the frequency contract. -/

namespace Sys2Proof.Machine

/-- The decimals of R424 as words. -/
theorem instrument_words :
    fDec 4 1 = 0x40800000#32 ∧ fDec 127236 1000000 = 0x3E024A27#32 ∧ fDec 220 1 = 0x435C0000#32 ∧
    fDec 3 100 = 0x3CF5C28F#32 ∧ fDec 2 10 = 0x3E4CCCCD#32 ∧ fDec 1 1000 = 0x3A83126F#32 ∧
    fDec 1 100 = 0x3C23D70A#32 ∧ fDec 3 1 = 0x40400000#32 ∧ fDec 5 10 = 0x3F000000#32 ∧
    fDec 55 100 = 0x3F0CCCCD#32 ∧ fDec 3 10 = 0x3E99999A#32 ∧ fDec 5 1000 = 0x3BA3D70A#32 ∧
    fDec 1 10 = 0x3DCCCCCD#32 ∧ fDec 2 1 = 0x40000000#32 ∧ fDec 32 100 = 0x3EA3D70A#32 ∧
    fDec 11 10 = 0x3F8CCCCD#32 ∧ fDec 15 100 = 0x3E19999A#32 ∧ fDec 5 100 = 0x3D4CCCCD#32 ∧
    fDec 85 100 = 0x3F59999A#32 ∧ fDec 997 1000 = 0x3F7F3B64#32 ∧ fDec 996 1000 = 0x3F7EF9DB#32 ∧
    fDec 95 100 = 0x3F733333#32 ∧ fDec 500 1 = 0x43FA0000#32 ∧ fDecNeg 2 10 = 0xBE4CCCCD#32 ∧
    fDec 612723 100000 = 0x40C41245#32 ∧ fDec 7 10 = 0x3F333333#32 ∧ fDecNeg 3 10 = 0xBE99999A#32 ∧
    fDec 5735 1000 = 0x40B7851F#32 ∧ fDec 65 100 = 0x3F266666#32 ∧ fDec 99 100 = 0x3F7D70A4#32 ∧
    fDec 5925 1000 = 0x40BD999A#32 ∧ fDecNeg 1 10 = 0xBDCCCCCD#32 ∧ fDec 6137 1000 = 0x40C4624E#32 := by
  decide

/-! ## The units of an instrument -/

/-- The warnings of a vibrato rate (spec/44_sources.md R383). -/
def vibratoWarnings (s : State) (f : F32) : List Warning := warnIf (oscFreqOut s.fs f) .paramRange

section
variable (s : State)

theorem State.setOz_setOz (u : Nat) (p q : OneZero) : (s.setOz u p).setOz u q = s.setOz u q := by simp [State.setOz]
theorem State.setBq_setBq (u : Nat) (p q : Biquad) : (s.setBq u p).setBq u q = s.setBq u q := by simp [State.setBq]
theorem State.setBow_setBow (u : Nat) (p q : Bow) : (s.setBow u p).setBow u q = s.setBow u q := by simp [State.setBow]
theorem State.setReed_setReed (u : Nat) (p q : Reed) : (s.setReed u p).setReed u q = s.setReed u q := by
  simp [State.setReed]
theorem State.setLip_setLip (u : Nat) (p q : Lip) : (s.setLip u p).setLip u q = s.setLip u q := by simp [State.setLip]

theorem configureOp (g p : F32) (h : 0 < s.op.length) :
    subOpSetPole 0 p (subOpSetGain 0 g s) = s.setOp 0 (opSetPole (opSetGain (s.opAt 0) g) p) := by
  simp only [subOpSetPole, subOpSetGain, State.opAt_setOp_self _ _ _ h, State.setOp_setOp]

theorem configureOz (g z : F32) (h : 0 < s.oz.length) :
    subOzSetZero 0 z (subOzSetGain 0 g s) = s.setOz 0 (ozSetZero (ozSetGain (s.ozAt 0) g) z) := by
  simp only [subOzSetZero, subOzSetGain, State.ozAt_setOz_self _ _ _ h, State.setOz_setOz]

theorem configureBq (f r b0 b1 b2 : F32) (h : 0 < s.bq.length) :
    subBqSetCoef 0 2 b2 (subBqSetCoef 0 1 b1 (subBqSetCoef 0 0 b0 (subBqSetFreqReson 0 f r s))) =
      s.setBq 0 { bqSetFreqReson s.cosine s.fs (s.bqAt 0) f r with b0 := b0, b1 := b1, b2 := b2 } := by
  simp only [subBqSetCoef, bqSetCoef, subBqSetFreqReson, State.bqAt_setBq_self _ _ _ h, State.setBq_setBq]

theorem configureBow (o k : F32) (h : 0 < s.bow.length) :
    subBowSetSlope 0 k (subBowSetOffset 0 o s) = s.setBow 0 { s.bowAt 0 with offset := o, slope := k } := by
  simp only [subBowSetSlope, subBowSetOffset, State.bowAt_setBow_self _ _ _ h, State.setBow_setBow]

theorem configureReed (o k : F32) (h : 0 < s.reed.length) :
    subReedSetSlope 0 k (subReedSetOffset 0 o s) = s.setReed 0 { s.reedAt 0 with offset := o, slope := k } := by
  simp only [subReedSetSlope, subReedSetOffset, State.reedAt_setReed_self _ _ _ h, State.setReed_setReed]

theorem configureLip (b0 b1 b2 : F32) (h : 0 < s.lip.length) :
    subLipSetCoef 0 2 b2 (subLipSetCoef 0 1 b1 (subLipSetCoef 0 0 b0 s)) =
      s.setLip 0 { s.lipAt 0 with filter := { (s.lipAt 0).filter with b0 := b0, b1 := b1, b2 := b2 } } := by
  simp only [subLipSetCoef, bqSetCoef, State.lipAt_setLip_self _ _ _ h, State.setLip_setLip]

theorem configureOsc (f : F32) :
    subOscSetFreq 0 f s = warned (vibratoWarnings s f) (s.setOsc 0 (oscSetFreq s.fs (s.oscAt 0) f)) :=
  raiseIf_eq_warned _ _ _

/-- The average of two samples at gain `g` (spec/41_filters.md R246, R247). -/
theorem ozSetZero_minusOne (q : OneZero) (g half : F32) (hhalf : ozB0 g fMinusOne = half ∧ ozB1 g fMinusOne = half) :
    ozSetZero (ozSetGain q g) fMinusOne = { q with gain := g, zero := fMinusOne, b0 := half, b1 := half } := by
  simp [ozSetZero, ozSetGain, hhalf]

theorem configureUnits_bowed (hop : 0 < s.op.length) (hbq : 0 < s.bq.length) (hbow : 0 < s.bow.length) :
    configureUnits .bowed s = warned (vibratoWarnings s 0x40C41245#32)
      ((((s.setOp 0 (opSetPole (opSetGain (s.opAt 0) 0x3F733333#32) 0x3F0CCCCD#32)).setBq 0
        { bqSetFreqReson s.cosine s.fs (s.bqAt 0) 0x43FA0000#32 0x3F59999A#32 with
          b0 := 0x3E4CCCCD#32, b1 := 0#32, b2 := 0xBE4CCCCD#32 }).setBow 0
        { s.bowAt 0 with offset := 0#32, slope := 0x40400000#32 }).setOsc 0
        (oscSetFreq s.fs (s.oscAt 0) 0x40C41245#32)) := by
  simp only [configureUnits, instrument_words]
  rw [configureOp _ _ _ hop, configureBq _ _ _ _ _ _ (by exact hbq), configureBow _ _ _ (by exact hbow), configureOsc]
  rfl

theorem configureUnits_clarinet (hoz : 0 < s.oz.length) (hreed : 0 < s.reed.length) :
    configureUnits .clarinet s = warned (vibratoWarnings s 0x40B7851F#32)
      (((s.setOz 0 (ozSetZero (ozSetGain (s.ozAt 0) 0x3F733333#32) fMinusOne)).setReed 0
        { s.reedAt 0 with offset := 0x3F333333#32, slope := 0xBE99999A#32 }).setOsc 0
        (oscSetFreq s.fs (s.oscAt 0) 0x40B7851F#32)) := by
  simp only [configureUnits, instrument_words]
  rw [configureOz _ _ _ hoz, configureReed _ _ _ (by exact hreed), configureOsc]
  rfl

theorem configureUnits_flute (hop : 0 < s.op.length) :
    configureUnits .flute s = warned (vibratoWarnings s 0x40BD999A#32)
      (((s.setOp 0 (opSetPole (opSetGain (s.opAt 0) fMinusOne) 0x3F266666#32)).setPz 0
        (pzSetBlockZero (s.pzAt 0) 0x3F7D70A4#32)).setOsc 0 (oscSetFreq s.fs (s.oscAt 0) 0x40BD999A#32)) := by
  simp only [configureUnits, instrument_words]
  rw [configureOp _ _ _ hop, configureOsc]
  rfl

theorem configureUnits_brass (hlip : 0 < s.lip.length) :
    configureUnits .brass s = warned (vibratoWarnings s 0x40C4624E#32)
      (((s.setLip 0 { s.lipAt 0 with
          filter := { (s.lipAt 0).filter with b0 := 0x3DCCCCCD#32, b1 := 0#32, b2 := 0xBDCCCCCD#32 } }).setPz 0
        (pzSetBlockZero (s.pzAt 0) 0x3F7D70A4#32)).setOsc 0 (oscSetFreq s.fs (s.oscAt 0) 0x40C4624E#32)) := by
  simp only [configureUnits, instrument_words]
  rw [configureLip _ _ _ _ hlip, configureOsc]
  rfl

theorem configureUnits_plucked (hoz : 0 < s.oz.length) :
    configureUnits .plucked s = s.setOz 0 (ozSetZero (ozSetGain (s.ozAt 0) fOne) fMinusOne) :=
  configureOz _ _ _ hoz

end

/-! ## The parameters of an instrument -/

/-- The parameter registers 8 to 23, in order (spec/10_state.md R49). -/
def Voice.params (v : Voice) : List F32 :=
  [v.comp, v.ratio, v.minDelay, v.defaultFreq, v.outGain, v.excOffset, v.excScale, v.attackRate, v.releaseScale,
   v.noiseGain, v.vibGain, v.reflA, v.reflB, v.loopGain, v.loopGainOn, v.lipReson]

theorem Voice.floats_eq (v : Voice) : v.floats = [v.freq, v.amp, v.baseDelay, v.last] ++ v.params := rfl

theorem Voice.eq_of_floats {v w : Voice} (hi : v.instr = w.instr) (hs : v.vstate = w.vstate)
    (hf : v.floats = w.floats) : v = w := by
  cases v; cases w
  simp_all [Voice.floats]

/-- A selection writes the parameter registers and INSTR, and keeps the other status registers. -/
theorem voiceDefaults_keeps (v : Voice) (i : Instrument) :
    (voiceDefaults v i).instr = v.instr ∧ (voiceDefaults v i).vstate = v.vstate ∧ (voiceDefaults v i).freq = v.freq ∧
    (voiceDefaults v i).amp = v.amp ∧ (voiceDefaults v i).baseDelay = v.baseDelay ∧
    (voiceDefaults v i).last = v.last := by
  cases i <;> exact ⟨rfl, rfl, rfl, rfl, rfl, rfl⟩

/-- The column of R424 for each instrument. -/
theorem voiceDefaults_params (v : Voice) :
    (voiceDefaults v .bowed).params = [0x40800000#32, 0x3E024A27#32, 0x3F800000#32, 0x435C0000#32, 0x3F800000#32,
      0x3CF5C28F#32, 0x3E4CCCCD#32, 0x3A83126F#32, 0x3C23D70A#32, 0, 0, 0, 0, 0, 0, 0] ∧
    (voiceDefaults v .clarinet).params = [0x40400000#32, 0x3F000000#32, 0x3F800000#32, 0x435C0000#32, 0x3F800000#32,
      0x3F0CCCCD#32, 0x3E99999A#32, 0x3BA3D70A#32, 0x3C23D70A#32, 0x3E4CCCCD#32, 0x3DCCCCCD#32, 0, 0, 0, 0, 0] ∧
    (voiceDefaults v .flute).params = [0x40000000#32, 0x3EA3D70A#32, 0x3F800000#32, 0x435C0000#32, 0x3E99999A#32,
      0x3F8CCCCD#32, 0x3E4CCCCD#32, 0x3BA3D70A#32, 0x3C23D70A#32, 0x3E19999A#32, 0x3D4CCCCD#32, 0x3F000000#32,
      0x3F000000#32, 0, 0, 0] ∧
    (voiceDefaults v .brass).params = [0, 0x3F800000#32, 0x3F800000#32, 0x435C0000#32, 0x3F800000#32, 0,
      0x3E99999A#32, 0x3BA3D70A#32, 0x3C23D70A#32, 0, 0, 0x3F59999A#32, 0, 0, 0, 0x3F7F3B64#32] ∧
    (voiceDefaults v .plucked).params = [0x3F000000#32, 0x3F800000#32, 0x3F800000#32, 0x435C0000#32, 0x3F800000#32,
      0, 0, 0, 0, 0, 0, 0, 0, 0x3F7EF9DB#32, 0x3F7EF9DB#32, 0] := by
  simp only [voiceDefaults, Voice.params, instrument_words]
  exact ⟨rfl, rfl, rfl, rfl, rfl⟩

/-! ## V.SETINSTR -/

section
variable {s : State} {v : Voice} {i : Instrument} {k : Nat}

theorem eq_voiceDefaults (hi : v.instr = i) (hstate : v.vstate = s.voice.vstate)
    (hheld : [v.freq, v.amp, v.baseDelay, v.last] =
      [s.voice.freq, s.voice.amp, s.voice.baseDelay, s.voice.last])
    (hparams : v.params = (voiceDefaults { s.voice with instr := i } i).params) :
    v = voiceDefaults { s.voice with instr := i } i := by
  obtain ⟨instr, vstate, freq, amp, base, last⟩ := voiceDefaults_keeps { s.voice with instr := i } i
  refine Voice.eq_of_floats (hi.trans instr.symm) (hstate.trans vstate.symm) ?_
  rw [Voice.floats_eq, Voice.floats_eq, hheld, hparams, freq, amp, base, last]

theorem voiceDefaults_defaultFreq (v : Voice) (h : i ≠ .none) : (voiceDefaults v i).defaultFreq = 0x435C0000#32 := by
  cases i with
  | none => exact absurd rfl h
  | bowed | clarinet | flute | brass | plucked => simp only [voiceDefaults, instrument_words]

theorem exec_vSetInstr_of_some (hk : instrOfId k = some i) :
    exec (.vSetInstr k) s = .next (endCommand (selectInstrument i (startCommand s))) := by
  simp only [exec, execVSetInstr, command_eq, hk]

/-- An id that no instrument has is refused (spec/45_voice.md R423). -/
theorem exec_vSetInstr_of_none (hk : instrOfId k = none) :
    exec (.vSetInstr k) s = .next (respond 0#32 [.illegal] s) := by
  simp only [exec, execVSetInstr, command_eq, hk, endCommand_refuse]

/-- A selection configures the units, resets the voice and tunes it to DEFAULT_FREQ; of the configuration only a vibrato
rate can warn. -/
theorem exec_vSetInstr_selects {t : State} {rate : List F32} (hk : instrOfId k = some i) (hi : i ≠ .none)
    (hvoice : t.voice = voiceDefaults { s.voice with instr := i } i)
    (hunits : configureUnits i ((startCommand s).setVoice t.voice) =
      warned (rate.map (vibratoWarnings s)).flatten (startCommand t)) :
    exec (.vSetInstr k) s = .next (respond 0#32
      ((rate.map (vibratoWarnings s)).flatten ++ tuneWarnings (quieted t) 0x435C0000#32)
      (tuned (quieted t) 0x435C0000#32)) := by
  have freq : (warned (rate.map (vibratoWarnings s)).flatten (startCommand (quieted t))).voice.defaultFreq =
      0x435C0000#32 :=
    (congrArg Voice.defaultFreq hvoice).trans (voiceDefaults_defaultFreq _ hi)
  rw [exec_vSetInstr_of_some hk, selectInstrument, startCommand_voice, ← hvoice, hunits, voiceReset_eq, quieted_warned,
    quieted_startCommand, freq, setFreq_eq, tuned_warned, tuneWarnings_warned, tuned_startCommand,
    tuneWarnings_startCommand, warned_warned, endCommand_warned]

end

/-- Settles O56: for each instrument the voice is the column of R424, and the units are as its configuration leaves
them. -/
theorem instrumentSelection : Obligations.InstrumentSelection := by
  intro s v hcounts hstate hheld params selected vibrato onePole average blocker
  obtain ⟨⟨hdl, -⟩, ⟨hop, -⟩, ⟨hoz, -⟩, ⟨hpz, -⟩, ⟨hbq, -⟩, ⟨hbow, -⟩, ⟨hreed, -⟩, -, ⟨hlip, -⟩, -⟩ := hcounts
  obtain ⟨bowed, clarinet, flute, brass, plucked⟩ := voiceDefaults_params s.voice
  refine ⟨fun hi hparams => ?bowed, fun hi hparams => ?clarinet, fun hi hparams => ?flute, fun hi hparams => ?brass,
    fun hi hparams => ?plucked⟩
  case bowed =>
    refine exec_vSetInstr_selects rfl (i := .bowed) nofun
      (eq_voiceDefaults hi hstate hheld (hparams.trans bowed.symm)) ?_
    refine (configureUnits_bowed ((startCommand s).setVoice v) (Nat.lt_of_succ_lt hop) hbq hbow).trans ?_
    rw [List.map_singleton, List.flatten_singleton]
    rfl
  case clarinet =>
    refine exec_vSetInstr_selects rfl (i := .clarinet) nofun
      (eq_voiceDefaults hi hstate hheld (hparams.trans clarinet.symm)) ?_
    refine (configureUnits_clarinet ((startCommand s).setVoice v) hoz hreed).trans ?_
    rw [List.map_singleton, List.flatten_singleton,
      ozSetZero_minusOne _ _ (fdiv 0x3F733333#32 0x40000000#32) (by decide)]
    rfl
  case flute =>
    refine exec_vSetInstr_selects rfl (i := .flute) nofun
      (eq_voiceDefaults hi hstate hheld (hparams.trans flute.symm)) ?_
    refine (configureUnits_flute ((startCommand s).setVoice v) (Nat.lt_of_succ_lt hop)).trans ?_
    rw [List.map_singleton, List.flatten_singleton]
    rfl
  case brass =>
    refine exec_vSetInstr_selects rfl (i := .brass) nofun
      (eq_voiceDefaults hi hstate hheld (hparams.trans brass.symm)) ?_
    refine (configureUnits_brass ((startCommand s).setVoice v) hlip).trans ?_
    rw [List.map_singleton, List.flatten_singleton]
    rfl
  case plucked =>
    refine exec_vSetInstr_selects rfl (i := .plucked) (rate := []) nofun
      (eq_voiceDefaults hi hstate hheld (hparams.trans plucked.symm)) ?_
    refine (configureUnits_plucked ((startCommand s).setVoice v) hoz).trans ?_
    rw [ozSetZero_minusOne _ _ (fdiv fOne 0x40000000#32) (by decide), List.map_nil, List.flatten_nil, warned_nil]
    rfl

end Sys2Proof.Machine

/-! The units of the voice (spec/45_voice.md R420): what lies outside them, which every sub-operation on a bound unit,
so every rule of the voice, leaves as it was. -/

namespace Sys2Proof.Machine

/-- The units that the voice is not bound to, and IRQ_EN. -/
structure Outside where
  dl : List DelayLine
  op : List OnePole
  oz : List OneZero
  pz : List PoleZero
  bq : List Biquad
  bow : List Bow
  reed : List Reed
  jet : List Jet
  lip : List Lip
  env : List Env
  adsr : List Adsr
  ns : List Noise
  osc : List Osc
  irqEn : BitVec 8

def State.outside (s : State) : Outside where
  dl := s.dl.drop 2
  op := s.op.drop 2
  oz := s.oz.drop 1
  pz := s.pz.drop 1
  bq := s.bq.drop 1
  bow := s.bow.drop 1
  reed := s.reed.drop 1
  jet := s.jet.drop 1
  lip := s.lip.drop 1
  env := s.env.drop 1
  adsr := s.adsr
  ns := s.ns.drop 1
  osc := s.osc.drop 1
  irqEn := s.irqEn

section
variable (s : State) (u k : Nat) (f x y : F32)

@[simp] theorem raise_outside (w : Warning) : (raise w s).outside = s.outside := rfl
@[simp] theorem refuse_outside : (refuse s).outside = s.outside := rfl
@[simp] theorem answer_outside (w : Word) : (answer w s).outside = s.outside := rfl
@[simp] theorem answerReg_outside (r : Option Word) : (answerReg r s).outside = s.outside := by cases r <;> rfl
@[simp] theorem setVoice_outside (v : Voice) : (s.setVoice v).outside = s.outside := rfl
@[simp] theorem withVState_outside (v : VoiceState) : (s.withVState v).outside = s.outside := rfl
@[simp] theorem withAmp_outside : (s.withAmp x).outside = s.outside := rfl
@[simp] theorem withLoopGain_outside : (s.withLoopGain x).outside = s.outside := rfl
@[simp] theorem warned_outside (ws : List Warning) : (warned ws s).outside = s.outside := (rfl)
@[simp] theorem raiseIf_outside (c : Bool) (w : Warning) : (raiseIf c w s).outside = s.outside := by cases c <;> rfl

/-! ## A write of a bound unit -/

@[simp] theorem setDl_outside (q : DelayLine) (hu : u < 2) : (s.setDl u q).outside = s.outside := by
  simp [State.outside, List.drop_set_of_lt hu]
@[simp] theorem setOp_outside (q : OnePole) (hu : u < 2) : (s.setOp u q).outside = s.outside := by
  simp [State.outside, List.drop_set_of_lt hu]
@[simp] theorem setOz_outside (q : OneZero) : (s.setOz 0 q).outside = s.outside := by
  simp [State.outside, List.drop_set_of_lt, -List.drop_one]
@[simp] theorem setPz_outside (q : PoleZero) : (s.setPz 0 q).outside = s.outside := by
  simp [State.outside, List.drop_set_of_lt, -List.drop_one]
@[simp] theorem setBq_outside (q : Biquad) : (s.setBq 0 q).outside = s.outside := by
  simp [State.outside, List.drop_set_of_lt, -List.drop_one]
@[simp] theorem setBow_outside (q : Bow) : (s.setBow 0 q).outside = s.outside := by
  simp [State.outside, List.drop_set_of_lt, -List.drop_one]
@[simp] theorem setReed_outside (q : Reed) : (s.setReed 0 q).outside = s.outside := by
  simp [State.outside, List.drop_set_of_lt, -List.drop_one]
@[simp] theorem setJet_outside (q : Jet) : (s.setJet 0 q).outside = s.outside := by
  simp [State.outside, List.drop_set_of_lt, -List.drop_one]
@[simp] theorem setLip_outside (q : Lip) : (s.setLip 0 q).outside = s.outside := by
  simp [State.outside, List.drop_set_of_lt, -List.drop_one]
@[simp] theorem setEnv_outside (q : Env) : (s.setEnv 0 q).outside = s.outside := by
  simp [State.outside, List.drop_set_of_lt, -List.drop_one]
@[simp] theorem setNs_outside (q : Noise) : (s.setNs 0 q).outside = s.outside := by
  simp [State.outside, List.drop_set_of_lt, -List.drop_one]
@[simp] theorem setOsc_outside (q : Osc) : (s.setOsc 0 q).outside = s.outside := by
  simp [State.outside, List.drop_set_of_lt, -List.drop_one]

/-! ## The sub-operations of the voice -/

@[simp] theorem subDlTick_outside (hu : u < 2) : (subDlTick u x s).1.outside = s.outside := setDl_outside s u _ hu
@[simp] theorem subOpTick_outside (hu : u < 2) : (subOpTick u x s).1.outside = s.outside := setOp_outside s u _ hu
@[simp] theorem subOzTick_outside : (subOzTick 0 x s).1.outside = s.outside := setOz_outside s _
@[simp] theorem subPzTick_outside : (subPzTick 0 x s).1.outside = s.outside := setPz_outside s _
@[simp] theorem subBqTick_outside : (subBqTick 0 x s).1.outside = s.outside := setBq_outside s _
@[simp] theorem subBowTick_outside : (subBowTick 0 x s).1.outside = s.outside := setBow_outside s _
@[simp] theorem subReedTick_outside : (subReedTick 0 x s).1.outside = s.outside := setReed_outside s _
@[simp] theorem subJetTick_outside : (subJetTick 0 x s).1.outside = s.outside := setJet_outside s _
@[simp] theorem subLipTick_outside : (subLipTick 0 x y s).1.outside = s.outside := setLip_outside s _
@[simp] theorem subEnvTick_outside : (subEnvTick 0 s).1.outside = s.outside := setEnv_outside s _
@[simp] theorem subOscTick_outside : (subOscTick 0 s).1.outside = s.outside := setOsc_outside s _

@[simp] theorem subNsTick_outside : (subNsTick 0 s).1.outside = s.outside := by
  rw [subNsTick_eq]
  exact setNs_outside s _

@[simp] theorem subDlSetDelay_outside (hu : u < 2) : (subDlSetDelay u x s).outside = s.outside := by
  simp [subDlSetDelay, hu]

@[simp] theorem subEnvSetRate_outside : (subEnvSetRate 0 x s).outside = s.outside := by simp [subEnvSetRate]

@[simp] theorem subEnvSetTarget_outside : (subEnvSetTarget 0 x s).outside = s.outside := by
  unfold subEnvSetTarget
  split <;> simp

@[simp] theorem subOscSetFreq_outside : (subOscSetFreq 0 x s).outside = s.outside := by simp [subOscSetFreq]

@[simp] theorem subBqSetCoef_outside : (subBqSetCoef 0 k x s).outside = s.outside := by
  unfold subBqSetCoef
  split <;> simp

@[simp] theorem subLipSetCoef_outside : (subLipSetCoef 0 k x s).outside = s.outside := by
  unfold subLipSetCoef
  split <;> simp

/-! ## The rules of the voice -/

@[simp] theorem distribute_outside : (distribute x s).outside = s.outside := by
  unfold distribute
  split <;> simp

@[simp] theorem setFreq_outside : (setFreq f s).outside = s.outside := by
  simp only [setFreq]
  split <;> simp [subLipSetFreqReson]

@[simp] theorem excite_outside : (excite s).1.outside = s.outside := by simp [excite]

theorem loopBowed_outside : (loopBowed s).1.outside = s.outside := by
  simp only [loopBowed, subBqTick_outside]
  split <;> simp

@[simp] theorem loopBody_outside : (loopBody s).1.outside = s.outside := by
  unfold loopBody
  split
  · exact loopBowed_outside s
  · simp [loopClarinet]
  · simp [loopFlute]
  · simp [loopBrass]
  · simp [loopPlucked]
  · rfl

@[simp] theorem pluckTicks_outside (n : Nat) : (pluckTicks n s).outside = s.outside := by
  induction n generalizing s with
  | zero => rfl
  | succ n ih => simp [pluckTicks, ih, pluckTick]

@[simp] theorem configureUnits_outside (i : Instrument) : (configureUnits i s).outside = s.outside := by
  cases i <;> simp [configureUnits, subOpSetGain, subOpSetPole, subBqSetFreqReson, subBowSetOffset, subBowSetSlope,
    subOzSetGain, subOzSetZero, subReedSetOffset, subReedSetSlope, subPzSetBlockZero]

@[simp] theorem voiceReset_outside : (voiceReset s).outside = s.outside := by
  rw [voiceReset_eq]
  simp [quieted, State.outside, List.drop_set_of_lt, -List.drop_one]

@[simp] theorem selectInstrument_outside (i : Instrument) : (selectInstrument i s).outside = s.outside := by
  simp [selectInstrument]

@[simp] theorem startExcitation_outside : (startExcitation x s).outside = s.outside := by
  unfold startExcitation
  split
  · simp [pluckFill, subOpSetGain, subOpSetPole]
  · simp

@[simp] theorem noteOn_outside : (noteOn f x s).outside = s.outside := by simp [noteOn]

@[simp] theorem releaseExcitation_outside : (releaseExcitation x s).outside = s.outside := by
  unfold releaseExcitation
  split <;> simp

@[simp] theorem noteOff_outside : (noteOff x s).outside = s.outside := by simp [noteOff_eq_released]

@[simp] theorem releaseCheck_outside : (releaseCheck s).outside = s.outside := by
  unfold releaseCheck
  split <;> rfl

@[simp] theorem voiceTick_outside : (voiceTick s).outside = s.outside := by
  simp only [voiceTick, answer_outside, releaseCheck_outside]
  exact loopBody_outside s

/-- Every action of the controller map is of a bound unit (spec/45_voice.md R433). -/
theorem ccAction_outside {i : Instrument} {num : Nat} {act : F32 → State → State} (h : ccAction i num = some act) :
    (act x s).outside = s.outside := by
  unfold ccAction at h
  split at h <;> cases h <;> simp [ccVibrato, ccNoise, ccRate, ccPosition, subBowSetSlope, subReedSetSlope]

@[simp] theorem controlChange_outside (num : Nat) : (controlChange num x s).outside = s.outside := by
  unfold controlChange
  split
  · rfl
  · rw [ccAction_outside _ _ ‹_›, raiseIf_outside]

end

/-! ## Commands -/

section
variable {s t : State} {body : State → State}

theorem command_keeps_outside (h : command body s = .next t) (hb : ∀ s, (body s).outside = s.outside) :
    t.outside = s.outside := by
  rw [command_eq] at h
  cases h
  exact hb (startCommand s)

theorem voiceCommand_keeps_outside (h : command (onVoice body) s = .next t) (hb : ∀ s, (body s).outside = s.outside) :
    t.outside = s.outside := by
  refine command_keeps_outside h fun s => ?_
  unfold onVoice
  split
  · rfl
  · exact hb s

theorem exec_voice_keeps_outside {i : Instr} (hvoice : isVoice i = true) (h : exec i s = .next t) :
    t.outside = s.outside := by
  cases i with
  | vNoteOn => exact voiceCommand_keeps_outside h fun s => noteOn_outside s _ _
  | vNoteOff => exact voiceCommand_keeps_outside h fun s => noteOff_outside s _
  | vSetFreq => exact voiceCommand_keeps_outside h fun s => setFreq_outside s _
  | vTick => exact voiceCommand_keeps_outside h voiceTick_outside
  | vCc num => exact voiceCommand_keeps_outside h fun s => controlChange_outside s _ num
  | vReset => exact voiceCommand_keeps_outside h voiceReset_outside
  | vLastOut => exact voiceCommand_keeps_outside h fun _ => rfl
  | vRdReg => exact command_keeps_outside h fun s => answerReg_outside s _
  | vSetInstr id =>
    simp only [exec, execVSetInstr] at h
    refine command_keeps_outside h fun s => ?_
    split
    · exact selectInstrument_outside s _
    · rfl
  | vWrReg =>
    simp only [exec, execVWrReg] at h
    refine command_keeps_outside h fun s => ?_
    split <;> rfl
  | _ => cases hvoice

end

/-- Two lists with the same rest from `n` on agree from `n` on. -/
theorem getElem?_eq_of_drop_eq {α : Type} {l m : List α} {n u : Nat} (h : l.drop n = m.drop n) (hu : n ≤ u) :
    l[u]? = m[u]? := by
  obtain ⟨v, rfl⟩ := Nat.exists_eq_add_of_le hu
  rw [← List.getElem?_drop, ← List.getElem?_drop, h]

/-- Settles O21: each rule of the voice is made of sub-operations on bound units. -/
theorem voiceCommandsTouchBoundUnitsOnly : Obligations.VoiceCommandsTouchBoundUnitsOnly := by
  intro i s t hvoice h
  have kept := exec_voice_keeps_outside hvoice h
  simp only [State.outside, Outside.mk.injEq] at kept
  obtain ⟨dl, op, oz, pz, bq, bow, reed, jet, lip, env, adsr, ns, osc, irqEn⟩ := kept
  refine ⟨fun u hu => ⟨?_, ?_⟩, fun u hu => ⟨?_, ?_, ?_, ?_, ?_, ?_, ?_, ?_, ?_, ?_⟩, adsr, irqEn⟩ <;>
    exact getElem?_eq_of_drop_eq (by assumption) hu

end Sys2Proof.Machine

/-! VSTATE and INSTR (spec/45_voice.md R421, R422): which rules of the voice keep them, and the transition of each rule
that makes one. -/

namespace Sys2Proof.Machine

section
variable (s : State) (f amp x : F32)

/-! ## Rules that keep every voice register -/

theorem subNsTick_voice : (subNsTick 0 s).1.voice = s.voice := by rw [subNsTick_eq]; rfl

theorem excite_voice : (excite s).1.voice = s.voice := subNsTick_voice (subEnvTick 0 s).1

theorem loopBowed_voice : (loopBowed s).1.voice = s.voice := by
  simp only [loopBowed]
  split
  · exact (raiseIf_voice _ _ _).trans (excite_voice s)
  · exact excite_voice s

theorem loopBody_voice : (loopBody s).1.voice = s.voice := by
  unfold loopBody
  cases s.voice.instr with
  | bowed => exact loopBowed_voice s
  | clarinet => exact excite_voice s
  | flute => exact excite_voice s
  | brass => exact excite_voice s
  | plucked => rfl
  | none => rfl

theorem pluckFill_voice : (pluckFill x s).voice = s.voice := by
  simp only [pluckFill, pluckTicks_eq_iterate, iterate_pluckTick_voice]
  rfl

theorem subEnvSetTarget_voice (u : Nat) : (subEnvSetTarget u x s).voice = s.voice := by
  unfold subEnvSetTarget
  split <;> rfl

theorem sendEnv_voice (rate goal : F32) : (subEnvSetTarget 0 goal (subEnvSetRate 0 rate s)).voice = s.voice :=
  (subEnvSetTarget_voice _ _ _).trans (raiseIf_voice _ _ _)

/-! ## Rules that keep INSTR and VSTATE -/

/-- INSTR and VSTATE. -/
def State.stage : Instrument × VoiceState := (s.voice.instr, s.voice.vstate)

theorem setFreq_stage : (setFreq f s).stage = s.stage := by rw [setFreq_eq]; rfl

theorem startExcitation_stage : (startExcitation x s).stage = s.stage := by
  unfold startExcitation State.stage
  split
  · rw [pluckFill_voice]; rfl
  · rw [sendEnv_voice]

theorem releaseExcitation_stage : (releaseExcitation x s).stage = s.stage := by
  unfold releaseExcitation State.stage
  split
  · rfl
  · rw [sendEnv_voice]

theorem ccAction_stage {i : Instrument} {num : Nat} {act : F32 → State → State} (h : ccAction i num = some act) :
    (act x s).stage = s.stage := by
  unfold ccAction at h
  split at h <;> cases h <;>
    simp [State.stage, ccVibrato, ccNoise, ccRate, ccPosition, subBowSetSlope, subReedSetSlope, subOscSetFreq]

theorem controlChange_stage (num : Nat) : (controlChange num x s).stage = s.stage := by
  unfold controlChange
  split
  · rfl
  · rw [ccAction_stage _ _ ‹_›, State.stage, raiseIf_voice, State.stage]

theorem voiceSet_stage {v w : Voice} {k : Nat} (h : voiceSet v k x = some w) :
    (w.instr, w.vstate) = (v.instr, v.vstate) := by
  unfold voiceSet at h
  split at h <;> cases h <;> rfl

theorem answerReg_stage (r : Option Word) : (answerReg r s).stage = s.stage := by cases r <;> rfl

/-! ## Rules with a transition -/

theorem noteOn_stage : (noteOn f amp s).stage = (s.voice.instr, .sounding) := by
  have kept := startExcitation_stage (warned (warnIf (unitOut amp) .ampRange ++ tuneWarnings s f)
    ((tuned s f).withAmp (unitClamp amp))) (unitClamp amp)
  rw [noteOn_eq_excited]
  exact congrArg (fun p : Instrument × VoiceState => (p.1, VoiceState.sounding)) kept

theorem noteOff_stage : (noteOff amp s).stage = (s.voice.instr, releasedState s.voice.vstate) := by
  have kept := releaseExcitation_stage (warned (warnIf (unitOut amp) .ampRange) s) (unitClamp amp)
  rw [noteOff_eq_released]
  exact congrArg (fun p : Instrument × VoiceState => (p.1, releasedState p.2)) kept

theorem voiceReset_stage : (voiceReset s).stage = (s.voice.instr, .idle) := by rw [voiceReset_eq]; rfl

theorem selectInstrument_vstate (i : Instrument) : (selectInstrument i s).voice.vstate = .idle := by
  rw [selectInstrument, setFreq_eq, voiceReset_eq]
  rfl

/-- The released voice whose excitation has ended becomes Idle (spec/45_voice.md R439). -/
theorem releaseCheck_stage : (releaseCheck s).stage =
    (s.voice.instr, if s.voice.instr ≠ .plucked ∧ s.voice.vstate = .releasing ∧ (s.envAt 0).state = .done ∧
      feq (s.envAt 0).value fZero = true then .idle else s.voice.vstate) := by
  have done_iff : releaseDone s = true ↔ s.voice.instr ≠ .plucked ∧ s.voice.vstate = .releasing ∧
      (s.envAt 0).state = .done ∧ feq (s.envAt 0).value fZero = true := by
    simp only [releaseDone, Bool.and_eq_true, decide_eq_true_eq]
    tauto
  simp only [releaseCheck, State.stage, ← done_iff]
  split <;> rfl

theorem releaseCheck_envAt (u : Nat) : (releaseCheck s).envAt u = s.envAt u := by
  unfold releaseCheck
  split <;> rfl

/-- The state of a V.TICK before the release check (spec/45_voice.md R430). -/
def sampled : State :=
  { (loopBody s).1.setVoice { (loopBody s).1.voice with last := (loopBody s).2 } with
    tickCount := (loopBody s).1.tickCount + 1#32 }

theorem sampled_voice : (sampled s).voice = { s.voice with last := (loopBody s).2 } := by
  rw [← loopBody_voice s]
  rfl

theorem voiceTick_stage : (voiceTick s).stage =
    (s.voice.instr, if s.voice.instr ≠ .plucked ∧ s.voice.vstate = .releasing ∧
      ((voiceTick s).envAt 0).state = .done ∧ feq ((voiceTick s).envAt 0).value fZero = true then .idle
      else s.voice.vstate) := by
  have env : (voiceTick s).envAt 0 = (sampled s).envAt 0 := releaseCheck_envAt (sampled s) 0
  have stage : (voiceTick s).stage = _ := releaseCheck_stage (sampled s)
  rw [stage, env, sampled_voice]

end

/-! ## Commands -/

section
variable {body : State → State} {s t : State}

theorem voiceCommand_cases (h : command (onVoice body) s = .next t) :
    (s.voice.instr = .none ∧ t = respond 0#32 [.noInstr] s) ∨
    (s.voice.instr ≠ .none ∧ t = endCommand (body (startCommand s))) := by
  by_cases hn : s.voice.instr = .none
  · rw [command_onVoice_none hn] at h
    cases h
    exact .inl ⟨hn, rfl⟩
  · rw [command_onVoice hn] at h
    cases h
    exact .inr ⟨hn, rfl⟩

/-- A VOICE command makes the transition of its rule with an instrument, and none without. -/
theorem voiceCommand_moves (h : command (onVoice body) s = .next t) {v : VoiceState}
    (hb : (body (startCommand s)).stage = (s.voice.instr, v)) :
    t.voice.vstate = (if s.voice.instr = .none then s.voice.vstate else v) ∧ t.voice.instr = s.voice.instr := by
  obtain ⟨hn, rfl⟩ | ⟨hn, rfl⟩ := voiceCommand_cases h
  · exact ⟨(if_pos hn).symm, rfl⟩
  · exact ⟨(congrArg Prod.snd hb).trans (if_neg hn).symm, congrArg Prod.fst hb⟩

theorem voiceCommand_keeps_stage (h : command (onVoice body) s = .next t) (hb : ∀ s, (body s).stage = s.stage) :
    t.voice.vstate = s.voice.vstate ∧ t.voice.instr = s.voice.instr := by
  have moves := voiceCommand_moves h (hb (startCommand s))
  rwa [startCommand_voice, ite_self] at moves

theorem command_keeps_stage (h : command body s = .next t) (hb : ∀ s, (body s).stage = s.stage) :
    t.voice.vstate = s.voice.vstate ∧ t.voice.instr = s.voice.instr := by
  rw [command_eq] at h
  cases h
  exact (Prod.ext_iff.mp (hb (startCommand s))).symm

theorem exec_vTick_moves (h : exec .vTick s = .next t) :
    t.voice.vstate = (if s.voice.instr ≠ .none ∧ s.voice.instr ≠ .plucked ∧ s.voice.vstate = .releasing ∧
      (t.envAt 0).state = .done ∧ feq (t.envAt 0).value fZero = true then .idle else s.voice.vstate) ∧
    t.voice.instr = s.voice.instr := by
  obtain ⟨hn, rfl⟩ | ⟨hn, rfl⟩ := voiceCommand_cases h
  · simp [hn]
  · have stage := voiceTick_stage (startCommand s)
    refine ⟨?_, congrArg Prod.fst stage⟩
    simp only [ne_eq, hn, not_false_eq_true, true_and]
    exact congrArg Prod.snd stage

theorem exec_vSetInstr_vstate {id : Nat} (h : exec (.vSetInstr id) s = .next t) :
    t.voice.vstate = if id ≤ 4 then .idle else s.voice.vstate := by
  have selected {i : Instrument} (hid : instrOfId id = some i) : t.voice.vstate = .idle := by
    rw [exec_vSetInstr_of_some hid] at h
    cases h
    exact selectInstrument_vstate _ i
  match id with
  | 0 | 1 | 2 | 3 | 4 => exact selected rfl
  | n + 5 =>
    rw [exec_vSetInstr_of_none rfl] at h
    cases h
    exact (if_neg (by omega)).symm

/-- A command that is no VOICE command keeps the voice, but for SYS.RESET. -/
theorem exec_keeps_voice {i : Instr} (h : exec i s = .next t) (hvoice : isVoice i = false) (hreset : i ≠ .sysReset) :
    t.voice = s.voice := by
  obtain ⟨-, voice, -⟩ := unitCommandsStayInTheirUnit i s t hvoice hreset h
  exact voice

end

/-- Settles O19: the transition of each rule, from `noteOn_stage` to `voiceTick_stage`; every other rule keeps INSTR and
VSTATE. -/
theorem voiceStateMachine : Obligations.VoiceStateMachine := by
  intro i s t h
  have keeps (kept : t.voice.vstate = s.voice.vstate ∧ t.voice.instr = s.voice.instr) {p : Prop} :
      t.voice.vstate = s.voice.vstate ∧ (p → i ≠ .sysReset → t.voice.instr = s.voice.instr) :=
    ⟨kept.1, fun _ _ => kept.2⟩
  cases i with
  | vSetInstr id => exact ⟨exec_vSetInstr_vstate h, fun hi => absurd rfl (hi id)⟩
  | sysReset => cases h; exact ⟨rfl, fun _ hi => absurd rfl hi⟩
  | vReset =>
    obtain ⟨vstate, instr⟩ := voiceCommand_moves h (voiceReset_stage _)
    exact ⟨vstate, fun _ _ => instr⟩
  | vNoteOn =>
    obtain ⟨vstate, instr⟩ := voiceCommand_moves h (noteOn_stage _ _ _)
    exact ⟨vstate, fun _ _ => instr⟩
  | vNoteOff =>
    obtain ⟨vstate, instr⟩ := voiceCommand_moves h (noteOff_stage _ _)
    refine ⟨vstate.trans ?_, fun _ _ => instr⟩
    by_cases hn : s.voice.instr = .none
    · simp [hn]
    · by_cases hs : s.voice.vstate = .sounding <;> simp [hn, hs, releasedState]
  | vTick =>
    obtain ⟨vstate, instr⟩ := exec_vTick_moves h
    exact ⟨vstate, fun _ _ => instr⟩
  | vSetFreq => exact keeps (voiceCommand_keeps_stage h fun s => setFreq_stage s _)
  | vCc num => exact keeps (voiceCommand_keeps_stage h fun s => controlChange_stage s _ num)
  | vLastOut => exact keeps (voiceCommand_keeps_stage h fun _ => rfl)
  | vRdReg => exact keeps (command_keeps_stage h fun s => answerReg_stage s _)
  | vWrReg =>
    simp only [exec, execVWrReg] at h
    refine keeps (command_keeps_stage h fun s => ?_)
    split
    · exact voiceSet_stage _ ‹_›
    · rfl
  | _ =>
    have voice := exec_keeps_voice h rfl nofun
    exact keeps ⟨congrArg Voice.vstate voice, congrArg Voice.instr voice⟩

end Sys2Proof.Machine

/-! V.TICK for each loop body (spec/46_voice_topologies.md R470 to R474): the sample and the units that the body leaves,
then LAST, TICK_COUNT and the release check (spec/45_voice.md R430, R439). -/

namespace Sys2Proof.Machine

/-! ## V.TICK around its loop body -/

section
variable (s : State) (y : F32) (ws : List Warning)

/-- The response to a rule that answers a word. -/
theorem endCommand_answer_warned : endCommand (answer y (warned ws (startCommand s))) = respond y ws s := by
  simp [endCommand, answer, warned, startCommand, respond]

/-- VSTATE after the release check. -/
def checkedState : VoiceState := if releaseDone s then .idle else s.voice.vstate

theorem releaseCheck_eq : releaseCheck s = s.withVState (checkedState s) := by
  unfold releaseCheck checkedState
  split <;> rfl

theorem checkedState_of_plucked (h : s.voice.instr = .plucked) : checkedState s = s.voice.vstate := by
  simp [checkedState, releaseDone, h]

theorem checkedState_of_ne_plucked (h : s.voice.instr ≠ .plucked) : checkedState s = vstateAfter s (s.envAt 0) := by
  simp [checkedState, releaseDone, vstateAfter, h, and_assoc]

end

section
variable {s t : State} {y : F32} {ws : List Warning}

/-- V.TICK answers the sample of the loop body, with the warnings of the body. -/
theorem exec_vTick_of_loopBody (hinstr : s.voice.instr ≠ .none)
    (hloop : loopBody (startCommand s) = (warned ws (startCommand t), y)) :
    exec .vTick s = .next (respond y ws { t with
      tickCount := t.tickCount + 1#32, voice := { t.voice with last := y, vstate := checkedState t } }) := by
  refine (command_onVoice hinstr voiceTick).trans (congrArg _ ?_)
  rw [voiceTick, hloop, releaseCheck_eq, ← endCommand_answer_warned]
  rfl

/-- Plucked has no release check. -/
theorem exec_vTick_of_plucked (hp : s.voice.instr = .plucked) (hvoice : t.voice = s.voice)
    (hloop : loopBody (startCommand s) = (startCommand t, y)) :
    exec .vTick s = .next (respond y [] { t with
      tickCount := t.tickCount + 1#32, voice := { s.voice with last := y } }) := by
  rw [exec_vTick_of_loopBody (t := t) (ws := []) (by simp [hp]) (by rw [hloop, warned_nil]),
    checkedState_of_plucked t (by rw [hvoice, hp]), hvoice]

/-- The other instruments run the release check on ENV0 as the excitation leaves it. -/
theorem exec_vTick_of_excited {e : Env} (hinstr : s.voice.instr ≠ .none) (hp : s.voice.instr ≠ .plucked)
    (hloop : loopBody (startCommand s) = (warned ws (startCommand t), y)) (henv : t.envAt 0 = e)
    (hvoice : t.voice = s.voice) (hcount : t.tickCount = s.tickCount) :
    exec .vTick s = .next (respond y ws { t with
      tickCount := s.tickCount + 1#32, voice := { s.voice with last := y, vstate := vstateAfter s e } }) := by
  rw [exec_vTick_of_loopBody hinstr hloop, checkedState_of_ne_plucked t (by rwa [hvoice]), henv, vstateAfter,
    vstateAfter, hvoice, hcount]

/-- A loop body that raises no warning. -/
theorem exec_vTick_of_quiet {e : Env} (hinstr : s.voice.instr ≠ .none) (hp : s.voice.instr ≠ .plucked)
    (hloop : loopBody (startCommand s) = (startCommand t, y)) (henv : t.envAt 0 = e)
    (hvoice : t.voice = s.voice) (hcount : t.tickCount = s.tickCount) :
    exec .vTick s = .next (respond y [] { t with
      tickCount := s.tickCount + 1#32, voice := { s.voice with last := y, vstate := vstateAfter s e } }) :=
  exec_vTick_of_excited hinstr hp (hloop.trans (by rw [warned_nil])) henv hvoice hcount

end

/-! ## The ticks of the voice's units, each an update of its class's list -/

section
variable (s : State) (x m b : F32) (u : Nat)

@[simp] theorem subDlTick_eq : subDlTick u x s =
    ({ s with dl := s.dl.set u (dlTick (s.dlAt u) x) }, (dlTick (s.dlAt u) x).last) := (rfl)

@[simp] theorem subOpTick_eq : subOpTick u x s =
    ({ s with op := s.op.set u (opTick (s.opAt u) x) }, (opTick (s.opAt u) x).last) := (rfl)

@[simp] theorem subOzTick_eq : subOzTick u x s =
    ({ s with oz := s.oz.set u (ozTick (s.ozAt u) x) }, (ozTick (s.ozAt u) x).last) := (rfl)

@[simp] theorem subPzTick_eq : subPzTick u x s =
    ({ s with pz := s.pz.set u (pzTick (s.pzAt u) x) }, (pzTick (s.pzAt u) x).last) := (rfl)

@[simp] theorem subBqTick_eq : subBqTick u x s =
    ({ s with bq := s.bq.set u (bqTick (s.bqAt u) x) }, (bqTick (s.bqAt u) x).last) := (rfl)

@[simp] theorem subBowTick_eq : subBowTick u x s =
    ({ s with bow := s.bow.set u (bowTick (s.bowAt u) x) }, (bowTick (s.bowAt u) x).last) := (rfl)

@[simp] theorem subReedTick_eq : subReedTick u x s =
    ({ s with reed := s.reed.set u (reedTick (s.reedAt u) x) }, (reedTick (s.reedAt u) x).last) := (rfl)

@[simp] theorem subJetTick_eq : subJetTick u x s =
    ({ s with jet := s.jet.set u (jetTick (s.jetAt u) x) }, (jetTick (s.jetAt u) x).last) := (rfl)

@[simp] theorem subLipTick_eq : subLipTick u m b s =
    ({ s with lip := s.lip.set u (lipTick (s.lipAt u) m b) }, (lipTick (s.lipAt u) m b).last) := (rfl)

@[simp] theorem dlTick_len (d : DelayLine) : (dlTick d x).len = d.len := rfl

end

/-! ## The loop bodies -/

/-- Settles O54: the loop filter, then the string, from the cleared response. -/
theorem pluckedVoiceTick : Obligations.PluckedVoiceTick := by
  intro s d0 dls z0 ozs hp hdl hoz loss string y
  refine exec_vTick_of_plucked (t := { s with oz := loss :: ozs, dl := string :: dls }) hp rfl ?_
  simp only [loopBody, startCommand_voice, hp, loopPlucked]
  simp +zetaDelta [startCommand, State.ozAt, State.dlAt, hoz, hdl]

section
variable {s : State} {e : Env} {es : List Env} {n : Noise} {ns : List Noise} {o : Osc} {os : List Osc}

/-- The excitation ticks ENV0, NS0 and OSC0 once each (spec/45_voice.md R431). -/
theorem excite_of_cons (henv : s.env = e :: es) (hns : s.ns = n :: ns) (hosc : s.osc = o :: os) :
    excite s =
      ({ s with env := envTick e :: es, ns := noiseAfter s n :: ns, osc := oscTick o :: os, drawCount := drawsAfter s },
       { e := (envTick e).value, v := (oscTick o).last,
         p := pressure s.voice (envTick e).value (noiseAfter s n).last (oscTick o).last }) := by
  simp only [excite, subNsTick_eq, subEnvTick, subOscTick, State.envAt, State.nsAt, State.oscAt, State.setEnv,
    State.setNs, State.setOsc, henv, hns, hosc]
  rfl

end

/-- Settles O53: each body from the excitation, which leaves the units of the body alone. -/
theorem windVoiceTick : Obligations.WindVoiceTick := by
  intro s d0 d1 dls p0 ops z0 ozs c0 pzs r0 reeds j0 jets l0 lips e0 envs n0 nss o0 oscs hdl hop hoz hpz hreed hjet hlip
    henv hns hosc v e n o p ticked
  let t : State := { s with env := e :: envs, ns := n :: nss, osc := o :: oscs, drawCount := drawsAfter s }
  have excited : excite (startCommand s) = (startCommand t, { e := e.value, v := o.last, p := p }) :=
    excite_of_cons (s := startCommand s) henv hns hosc
  refine ⟨fun (hi : s.voice.instr = _) => ?clarinet, fun (hi : s.voice.instr = _) => ?flute,
    fun (hi : s.voice.instr = _) => ?brass⟩
  case clarinet =>
    intro loss pd reed bore
    refine exec_vTick_of_quiet (t := { t with oz := loss :: ozs, reed := reed :: reeds, dl := bore :: d1 :: dls })
      (by simp [hi]) (by simp [hi]) ?_ rfl rfl rfl
    simp only [loopBody, startCommand_voice, hi, loopClarinet, excited]
    simp +zetaDelta [startCommand, State.ozAt, State.reedAt, State.dlAt, hoz, hreed, hdl]
  case flute =>
    intro loss block line jet bore
    refine exec_vTick_of_quiet
      (t := { t with op := loss :: ops, pz := block :: pzs, jet := jet :: jets, dl := bore :: line :: dls })
      (by simp [hi]) (by simp [hi]) ?_ rfl rfl rfl
    simp only [loopBody, startCommand_voice, hi, loopFlute, excited]
    simp +zetaDelta [startCommand, State.opAt, State.pzAt, State.jetAt, State.dlAt, hop, hpz, hjet, hdl]
  case brass =>
    intro lip bore block
    refine exec_vTick_of_quiet (t := { t with lip := lip :: lips, pz := block :: pzs, dl := bore :: d1 :: dls })
      (by simp [hi]) (by simp [hi]) ?_ rfl rfl rfl
    simp only [loopBody, startCommand_voice, hi, loopBrass, excited]
    simp +zetaDelta [startCommand, State.lipAt, State.pzAt, State.dlAt, hlip, hpz, hdl]

/-! ## The vibrato of the Bowed body (spec/46_voice_topologies.md R470) -/

section
variable (s : State) (x : F32) (u : Nat)

theorem State.setDl_dlAt : s.setDl u (s.dlAt u) = s := by
  have same : s.dl.set u (s.dlAt u) = s.dl := by
    rcases Nat.lt_or_ge u s.dl.length with h | h
    · rw [State.dlAt_eq s u h, List.set_getElem_self]
    · exact List.set_eq_of_length_le h
  rw [State.setDl, same]

/-- A delay that is set only where a condition holds. -/
theorem subDlSetDelay_if (c : Bool) : (if c then subDlSetDelay u x s else s) =
    warned (warnIf (c && dlLagOut (s.dlAt u).len x) .delayRange)
      (s.setDl u (if c then dlSetDelay (s.dlAt u) x else s.dlAt u)) := by
  cases c with
  | true => exact subDlSetDelay_eq s x u
  | false => exact (congrArg (warned []) (State.setDl_dlAt s u)).trans (warned_nil s) |>.symm

theorem subBqTick_warned (ws : List Warning) :
    subBqTick u x (warned ws s) = (warned ws (subBqTick u x s).1, (subBqTick u x s).2) := (rfl)

end

/-- Settles O52: the two strings from the excitation, then the vibrato with its warning, then the body filter. -/
theorem bowedVoiceTick : Obligations.BowedVoiceTick := by
  intro s d0 d1 dls p0 ops b0 bqs w0 bows e0 envs n0 nss o0 oscs hi hdl hop hbq hbow henv hns hosc v e o loss bridge nut
    dv bow nv string0 string1 lag body y
  let t : State :=
    { s with env := e :: envs, ns := noiseAfter s n0 :: nss, osc := o :: oscs, drawCount := drawsAfter s }
  have excited : excite (startCommand s) = (startCommand t, { e := e.value, v := o.last, p := _ }) :=
    excite_of_cons (s := startCommand s) henv hns hosc
  refine exec_vTick_of_excited (s := s)
    (t := { t with op := loss :: ops, bow := bow :: bows, bq := body :: bqs,
                   dl := (if flt fZero v.vibGain then dlSetDelay string0 lag else string0) :: string1 :: dls })
    (by simp [hi]) (by simp [hi]) ?_ rfl rfl rfl
  simp only [loopBody, startCommand_voice, hi, loopBowed, excited, subDlSetDelay_if, subBqTick_warned, warned_dlAt,
    warned_voice]
  simp +zetaDelta [startCommand, State.opAt, State.bowAt, State.bqAt, State.dlAt, State.setDl, bowedDelay, hop, hbow,
    hbq, hdl]

end Sys2Proof.Machine

/-! The pluck erases the earlier note (spec/46_voice_topologies.md R475): the fill writes each word of DL0 once, so that
two runs from lines that hold different words end in the same line, and a whole round brings the pointers back. -/

namespace Sys2Proof.Machine

/-! ## A word space is its words (spec/20_memory.md R101) -/

theorem mem_iff_memRead {m : Memory} (hm : Memory.wf m) (c : Nat × Word) :
    c ∈ m ↔ memRead m c.1 = c.2 ∧ c.2 ≠ 0#32 := by
  induction m with
  | nil => simpa [memRead] using Eq.symm
  | cons b m ih =>
    obtain ⟨pairwise, nonzero⟩ := hm
    obtain ⟨above, pairwise⟩ := List.pairwise_cons.mp pairwise
    obtain ⟨hb, nonzero⟩ := List.forall_mem_cons.mp nonzero
    have tail := ih ⟨pairwise, nonzero⟩
    rw [List.mem_cons, memRead]
    by_cases h : b.1 = c.1
    · have fresh : c ∉ m := fun hc => Nat.ne_of_lt (above c hc) h
      simp only [fresh, or_false, h, if_true]
      constructor
      · rintro rfl; exact ⟨rfl, hb⟩
      · rintro ⟨value, -⟩; exact Prod.ext h.symm value.symm
    · have other : c ≠ b := fun hc => h (hc ▸ rfl)
      simp only [other, false_or, h, if_false, tail]

theorem Memory.ext_of_wf {m n : Memory} (hm : Memory.wf m) (hn : Memory.wf n)
    (h : ∀ k, memRead m k = memRead n k) : m = n := by
  have : Std.Irrefl fun a b : Nat × Word => a.1 < b.1 := ⟨fun a => Nat.lt_irrefl a.1⟩
  have : Std.Antisymm fun a b : Nat × Word => a.1 < b.1 := ⟨fun a b hab hba => absurd hab (Nat.lt_asymm hba)⟩
  exact List.Pairwise.eq_of_mem_iff hm.1 hn.1 fun c => by rw [mem_iff_memRead hm, mem_iff_memRead hn, h]

theorem memRead_of_ge {m : Memory} {n k : Nat} (hm : ∀ c ∈ m, c.1 < n) (hk : n ≤ k) : memRead m k = 0#32 := by
  induction m with
  | nil => rfl
  | cons c m ih =>
    obtain ⟨hc, hm⟩ := List.forall_mem_cons.mp hm
    rw [memRead, if_neg (Nat.ne_of_lt (Nat.lt_of_lt_of_le hc hk)), ih hm]

/-! ## Two lines that differ in stale words only -/

/-- The sound lines `d` and `e` differ at most in LAST and in the `n` words from WPTR on. -/
structure SameButStale (n : Nat) (d e : DelayLine) : Prop where
  registers : e = { d with buf := e.buf, last := e.last }
  sound : lineSound d
  sound' : lineSound e
  words : ∀ j, (∀ i < n, j ≠ (d.wptr + i) % d.len) → memRead d.buf j = memRead e.buf j

section
variable {n : Nat} {d e : DelayLine} (x : F32)

/-- Lines that agree in their registers but LAST can differ in no other words than those of a whole round. -/
theorem sameButStale_round (hd : lineSound d) (he : lineSound e)
    (h : e = { d with buf := e.buf, last := e.last }) : SameButStale d.len d e := by
  refine ⟨h, hd, he, fun j away => ?_⟩
  have ⟨⟨hlen, _⟩, hw, _, _, inside⟩ := hd
  have ⟨_, _, _, _, inside'⟩ := he
  have outside : d.len ≤ j := by
    by_contra hj
    refine away ((j + (d.len - d.wptr)) % d.len) (Nat.mod_lt _ hlen) ?_
    rw [Nat.add_mod_mod, show d.wptr + (j + (d.len - d.wptr)) = j + d.len by omega, Nat.add_mod_right,
      Nat.mod_eq_of_lt (by omega)]
  have len : e.len = d.len := by rw [h]
  rw [memRead_of_ge inside outside, memRead_of_ge inside' (len ▸ outside)]

theorem SameButStale.len (h : SameButStale n d e) : e.len = d.len := by rw [h.registers]
theorem SameButStale.wptr (h : SameButStale n d e) : e.wptr = d.wptr := by rw [h.registers]

theorem SameButStale.setDelay (h : SameButStale n d e) : SameButStale n (dlSetDelay d x) (dlSetDelay e x) where
  registers := by rw [h.registers]; rfl
  sound := (LineMove.setDelay x).sound h.sound
  sound' := (LineMove.setDelay x).sound h.sound'
  words := h.words

/-- A tick writes the same sample over one stale word. -/
theorem SameButStale.tick (h : SameButStale (n + 1) d e) : SameButStale n (dlTick d x) (dlTick e x) where
  registers := by rw [h.registers]; rfl
  sound := (LineMove.tick x).sound h.sound
  sound' := (LineMove.tick x).sound h.sound'
  words j away := by
    have ⟨_, hw, _⟩ := h.sound
    rw [memRead_dlTick h.sound, memRead_dlTick h.sound', h.wptr]
    split
    · rfl
    next hj =>
      refine h.words j fun i hi => ?_
      cases i with
      | zero => rwa [Nat.add_zero, Nat.mod_eq_of_lt hw]
      | succ i =>
        have next := away i (by omega)
        simp only [dlTick, Nat.mod_add_mod] at next
        rwa [Nat.add_comm i 1, ← Nat.add_assoc]

/-- The tick that writes the last stale word leaves the same line: it reads after its write. -/
theorem SameButStale.dlTick_eq (h : SameButStale 1 d e) : dlTick d x = dlTick e x := by
  have ⟨_, ⟨_, _, _, wf, _⟩, ⟨_, _, _, wf', _⟩, words⟩ := h.tick x
  have written : dlWritten d x = dlWritten e x := Memory.ext_of_wf wf wf' fun j => words j fun i hi => by omega
  rw [dlTick, dlTick, dlOut, dlOut, written, h.registers]

end

/-! ## A line after a number of ticks -/

/-- The line `e` is `d` after `n` ticks, as far as its length, its delay and its pointers go. -/
structure Advanced (n : Nat) (d e : DelayLine) : Prop where
  len : e.len = d.len
  lag : e.lag = d.lag
  wptr : e.wptr = (d.wptr + n) % d.len
  rptr : e.rptr = (d.rptr + n) % d.len

section
variable {n : Nat} {d e : DelayLine}

theorem advanced_zero (hd : lineSound d) : Advanced 0 d d := by
  obtain ⟨-, hw, hr, -⟩ := hd
  exact ⟨rfl, rfl, (Nat.mod_eq_of_lt hw).symm, (Nat.mod_eq_of_lt hr).symm⟩

theorem Advanced.tick (h : Advanced n d e) (x : F32) : Advanced (n + 1) d (dlTick e x) where
  len := h.len
  lag := h.lag
  wptr := by simp only [dlTick, h.len, h.wptr, Nat.mod_add_mod, Nat.add_assoc]
  rptr := by simp only [dlTick, h.len, h.rptr, Nat.mod_add_mod, Nat.add_assoc]

/-- A whole round of ticks brings the pointers back. -/
theorem Advanced.round (h : Advanced d.len d e) (hd : lineSound d) :
    e.wptr = d.wptr ∧ e.rptr = d.rptr ∧ e.lag = d.lag := by
  obtain ⟨-, hw, hr, -⟩ := hd
  exact ⟨by rw [h.wptr, Nat.add_mod_right, Nat.mod_eq_of_lt hw],
    by rw [h.rptr, Nat.add_mod_right, Nat.mod_eq_of_lt hr], h.lag⟩

end

/-! ## The fill, as ticks of DL0 -/

/-- The sample that a tick of the fill writes to DL0. -/
def pluckSample (s : State) : F32 := (opTick (s.opAt 1) (noiseAfter s (s.nsAt 0)).last).last

section
variable {s : State} {n : Nat} {d e : DelayLine} {ds : List DelayLine}

theorem State.dlAt_of_cons (hdl : s.dl = d :: ds) : s.dlAt 0 = d := by simp [State.dlAt, hdl]

/-- What DL0 holds reaches no other unit and no sample of the fill. -/
theorem pluckTick_withLine :
    pluckTick { s with dl := e :: ds } = { pluckTick s with dl := dlTick e (pluckSample s) :: ds } := by
  simp only [pluckTick, subNsTick_eq]
  rfl

theorem pluckTick_dl (hdl : s.dl = d :: ds) : (pluckTick s).dl = dlTick d (pluckSample s) :: ds := by
  have written : (pluckTick s).dl = s.dl.set 0 (dlTick (s.dlAt 0) (pluckSample s)) := by
    simp only [pluckTick, subNsTick_eq]
    rfl
  rw [written, State.dlAt_of_cons hdl, hdl, List.set_cons_zero]

/-- A fill that writes every stale word ends the same. -/
theorem iterate_pluckTick_withLine (hn : 1 ≤ n) (hdl : s.dl = d :: ds) (h : SameButStale n d e) :
    pluckTick^[n] { s with dl := e :: ds } = pluckTick^[n] s := by
  induction n, hn using Nat.le_induction generalizing s d e with
  | base =>
    show pluckTick _ = pluckTick s
    rw [pluckTick_withLine, ← h.dlTick_eq, ← pluckTick_dl hdl]
  | succ n _ ih =>
    rw [Function.iterate_succ_apply, Function.iterate_succ_apply, pluckTick_withLine]
    exact ih (pluckTick_dl hdl) (h.tick _)

theorem iterate_pluckTick_advanced (hdl : s.dl = d :: ds) (hd : lineSound d) (n : Nat) :
    ∃ e, (pluckTick^[n] s).dl = e :: ds ∧ Advanced n d e := by
  induction n with
  | zero => exact ⟨d, hdl, advanced_zero hd⟩
  | succ n ih =>
    obtain ⟨e, he, advanced⟩ := ih
    rw [Function.iterate_succ_apply']
    exact ⟨_, pluckTick_dl he, advanced.tick _⟩

end

/-! ## The note-on -/

/-- The state from which V.NOTEON fills DL0 (spec/45_voice.md R428, spec/46_voice_topologies.md R475). -/
def readied (s : State) (f amp : F32) : State :=
  (((tuned s f).withAmp amp).withLoopGain s.voice.loopGainOn).setOp 1 (pickFilter amp (s.opAt 1))

section
variable {s : State} {d e : DelayLine} {ds : List DelayLine}

theorem exec_vNoteOn_of_plucked (hp : s.voice.instr = .plucked) (hop : 1 < s.op.length) (f a : Word) :
    exec (.vNoteOn f a) s = .next (respond 0#32
      (warnIf (unitOut (asF32 a)) .ampRange ++ tuneWarnings s (asF32 f))
      ((pluckTick^[(s.dlAt 0).len] (readied s (asF32 f) (unitClamp (asF32 a)))).withVState .sounding)) := by
  refine voiceCommand_responds (body := noteOn (asF32 f) (asF32 a)) (by simp [hp]) ?_
  rw [noteOn_of_plucked (startCommand s) _ _ hp hop]
  exact congrArg (fun t => warned _ (State.withVState t .sounding))
    (iterate_pluckTick_startCommand (readied s (asF32 f) (unitClamp (asF32 a))) _)

/-- The delay of DL0 that a Plucked voice asks for (spec/45_voice.md R426). -/
def pluckDelay (s : State) (f : F32) : F32 := fmul (tunedDelay s f) s.voice.ratio

theorem tuned_dl_of_plucked (hp : s.voice.instr = .plucked) (hdl : s.dl = d :: ds) (f : F32) :
    (tuned s f).dl = dlSetDelay d (pluckDelay s f) :: ds := by
  simp [tuned, distributedLines, shareOfLine0, twoLines, pluckDelay, State.dlAt, hp, hdl]

/-- The frequency contract of a Plucked voice reads no more of DL0 than its length. -/
theorem tuned_withLine (hp : s.voice.instr = .plucked) (hdl : s.dl = d :: ds) (hlen : e.len = d.len) (f : F32) :
    tuned { s with dl := e :: ds } f = { tuned s f with dl := dlSetDelay e (pluckDelay s f) :: ds } ∧
    tuneWarnings { s with dl := e :: ds } f = tuneWarnings s f := by
  have len : (State.dlAt { s with dl := e :: ds } 0).len = (s.dlAt 0).len := by simp [State.dlAt, hdl, hlen]
  have largest : largestDelay { s with dl := e :: ds } = largestDelay s := by rw [largestDelay, len, largestDelay]
  have delay : tunedDelay { s with dl := e :: ds } f = tunedDelay s f := by
    simp only [tunedDelay, largest]
    rfl
  constructor
  · have lines := tuned_dl_of_plucked (s := { s with dl := e :: ds }) hp rfl f
    rw [pluckDelay, delay] at lines
    rw [pluckDelay, ← lines]
    simp only [tuned, delay]
    rfl
  · have oneLine : twoLines s.voice.instr = false := by simp [hp, twoLines]
    simp only [tuneWarnings, delayClamped, distributeWarnings, shareOfLine0, delay, largest, len, oneLine,
      Bool.false_and, requestedDelay, tunedFreq]

/-- Both runs fill the line that the frequency contract leaves with the same samples, one for each word. -/
theorem exec_vNoteOn_withLine (hp : s.voice.instr = .plucked) (hop : 1 < s.op.length) (hdl : s.dl = d :: ds)
    (h : SameButStale d.len d e) (f a : Word) :
    exec (.vNoteOn f a) { s with dl := e :: ds } = exec (.vNoteOn f a) s := by
  obtain ⟨⟨hlen, -⟩, -⟩ := h.sound
  obtain ⟨tune, warnings⟩ := tuned_withLine hp hdl h.len (asF32 f)
  let ready := readied s (asF32 f) (unitClamp (asF32 a))
  let line := dlSetDelay e (pluckDelay s (asF32 f))
  have ready_withLine : readied { s with dl := e :: ds } (asF32 f) (unitClamp (asF32 a)) =
      { ready with dl := line :: ds } := by
    rw [readied, tune]
    rfl
  have filled : pluckTick^[d.len] { ready with dl := line :: ds } = pluckTick^[d.len] ready :=
    iterate_pluckTick_withLine hlen (tuned_dl_of_plucked hp hdl _) (h.setDelay _)
  rw [exec_vNoteOn_of_plucked hp hop, exec_vNoteOn_of_plucked (s := { s with dl := e :: ds }) hp hop, warnings,
    ready_withLine, State.dlAt_of_cons hdl, State.dlAt_of_cons (s := { s with dl := e :: ds }) rfl, h.len, filled]

/-- The ticks of the fill take the pointers of DL0 once around. -/
theorem exec_vNoteOn_line {r : State} {f a : Word} (hp : s.voice.instr = .plucked) (hop : 1 < s.op.length)
    (hdl : s.dl = d :: ds) (hd : lineSound d) (hr : exec (.vNoteOn f a) s = .next r) :
    let line := (tuned s (asF32 f)).dlAt 0
    (r.dlAt 0).wptr = line.wptr ∧ (r.dlAt 0).rptr = line.rptr ∧ (r.dlAt 0).lag = line.lag := by
  have tune := tuned_dl_of_plucked hp hdl (asF32 f)
  have sound : lineSound (dlSetDelay d (pluckDelay s (asF32 f))) := (LineMove.setDelay _).sound hd
  obtain ⟨q, filled, advanced⟩ :=
    iterate_pluckTick_advanced (s := readied s (asF32 f) (unitClamp (asF32 a))) tune sound d.len
  rw [exec_vNoteOn_of_plucked hp hop, State.dlAt_of_cons hdl] at hr
  cases hr
  rw [State.dlAt_of_cons tune, respond_dlAt, State.withVState, State.setVoice_dlAt, State.dlAt_of_cons filled]
  exact advanced.round sound

end

/-- Settles O50: the fill forgets the buffer and LAST of DL0, and its ticks are a whole round of the pointers. -/
theorem pluckErasesTheEarlierNote : Obligations.PluckErasesTheEarlierNote := by
  rintro s t f a d e ds hs ht hp hdl registers rfl
  have ⟨counts, lines, _⟩ := hs
  have ⟨_, lines', _⟩ := ht
  have ⟨_, ⟨hop, _⟩, _⟩ := counts
  have hd : lineSound d := lines d (by simp [hdl])
  have he : lineSound e := lines' e (by simp)
  refine ⟨(exec_vNoteOn_withLine hp hop hdl (sameButStale_round hd he registers) f a).symm, fun r g hr hg => ?_⟩
  obtain ⟨setFreq, -⟩ := voiceTuningAndReset s f counts (by simp [hp])
  rw [setFreq] at hg
  cases hg
  exact exec_vNoteOn_line hp hop hdl hd hr

end Sys2Proof.Machine

/-! The system commands (spec/48_system.md R500 to R503) and the system registers (spec/10_state.md R51 to R58). -/

namespace Sys2Proof.Machine

/-- Four counts of 8 bits side by side are their sum at the weights of their places (spec/10_state.md R57). -/
theorem configWord_eq {a b c d : Nat} (ha : a ≤ 255) (hb : b ≤ 255) (hc : c ≤ 255) (hd : d ≤ 255) :
    configWord a b c d = BitVec.ofNat 32 (a + 256 * b + 65536 * c + 16777216 * d) := by
  apply BitVec.eq_of_toNat_eq
  have byte {n : Nat} (hn : n ≤ 255) : (BitVec.ofNat 8 n).toNat = n := by
    rw [BitVec.toNat_ofNat]
    omega
  have join (x : Nat) {n : Nat} (hn : n ≤ 255) : x <<< 8 ||| n = 256 * x + n := by
    rw [← Nat.shiftLeft_add_eq_or_of_lt (Nat.lt_succ_of_le hn), Nat.shiftLeft_eq]
    omega
  simp only [configWord, BitVec.toNat_append, byte ha, byte hb, byte hc, byte hd, join _ ha, join _ hb, join _ hc,
    BitVec.toNat_ofNat]
  omega

theorem truncate_eq_ofNat_mod (v : Word) : v.truncate 8 = BitVec.ofNat 8 (v.toNat % 256) := by
  apply BitVec.eq_of_toNat_eq
  simp

section
variable (s : State)

theorem exec_sysNop : exec .sysNop s = .next (respond 0#32 [] s) := congrArg _ (endCommand_start s)

theorem decode_zero : decode ⟨0#32, 0#32, 0#32⟩ = .ok .sysNop := rfl

theorem exec_sysRdReg {k : Nat} {w : Word} (h : sysReg s k = some w) :
    exec (.sysRdReg k) s = .next (respond w [] s) := by
  have start : sysReg (startCommand s) k = some w := h
  rw [exec, execSysRdReg, command_eq, start, endCommand_answerReg]

/-- A write of a system register from the cleared response, as the update it makes (spec/48_system.md R503). -/
theorem exec_sysWrReg {k : Nat} {v : Word} {t : State} (h : sysWrite k v (startCommand s) = startCommand t) :
    exec (.sysWrReg k v) s = .next (respond 0#32 [] t) := by
  rw [exec, execSysWrReg, command_eq, h, endCommand_start]

end

/-- Settles O26: the list is the rows of the system register table, and each write is an update of one register. -/
theorem systemCommands : Obligations.SystemCommands := by
  intro s k v w pack
  refine ⟨exec_sysNop s, ?_, fun counts hw => ?_, ?_, ?_, exec_sysWrReg s rfl⟩
  · rw [runPacket_of_ok decode_zero, exec_sysNop]
  · obtain ⟨⟨-, dl⟩, ⟨-, op⟩, ⟨-, oz⟩, ⟨-, pz⟩, ⟨-, bq⟩, ⟨-, bow⟩, ⟨-, reed⟩, ⟨-, jet⟩, ⟨-, lip⟩, ⟨-, env⟩, ⟨-, adsr⟩,
      ⟨-, ns⟩, ⟨-, osc⟩⟩ := counts
    have zero : 0 ≤ 255 := Nat.zero_le _
    simp only [pack, ← configWord_eq dl op oz pz, ← configWord_eq bq bow reed jet, ← configWord_eq lip env adsr ns,
      ← configWord_eq osc zero zero zero] at hw
    exact exec_sysRdReg s (row_of_listed rfl hw)
  · rw [← truncate_eq_ofNat_mod]
    exact exec_sysWrReg s rfl
  · rw [← truncate_eq_ofNat_mod]
    exact exec_sysWrReg s rfl

end Sys2Proof.Machine

/-! The reset state and the two resets (spec/70_reset_and_hazards.md R570 to R572), and the invariants of a build's reset
state: each class is its reset value, unit by unit. -/

namespace Sys2Proof.Machine

/-! ## Resets -/

theorem map_reset_eq_replicate {α : Type} {l : List α} {n : Nat} (h : l.length = n) (x : α) :
    l.map (fun _ => x) = List.replicate n x := by rw [List.map_const', h]

/-- A reset in place of a block of the build `b` leaves the reset state of `b`, with the model's own fields kept. -/
theorem restart_of_buildKept {b : Config.Build} {s : State} (h : buildKept (State.ofBuild b) s) :
    restart s = { State.ofBuild b with inbox := s.inbox, drawCount := s.drawCount } := by
  obtain ⟨fs, noise, cosine, lines, tables, counts⟩ := h
  have count (c : UnitClass) {n : Nat} (hn : unitCount (State.ofBuild b) c = n) : unitCount s c = n := (counts c).trans hn
  have dl : s.dl.map (fun d => DelayLine.reset d.len) = b.dlLens.map DelayLine.reset := by
    have lens : s.dl.map (·.len) = b.dlLens := by simpa [State.ofBuild, DelayLine.reset, Function.comp_def] using lines
    rw [← lens, List.map_map]
    rfl
  have osc : s.osc.map (fun o => Osc.reset o.len) = List.replicate b.nOsc (Osc.reset b.oscT) := by
    have lens : s.osc.map (·.len) = List.replicate b.nOsc b.oscT := by simpa [State.ofBuild, Osc.reset] using tables
    rw [← List.map_replicate, ← lens, List.map_map]
    rfl
  simp only [restart, State.ofBuild, State.mk.injEq, and_true]
  exact ⟨fs, noise, cosine, dl,
    map_reset_eq_replicate (count .op List.length_replicate) _, map_reset_eq_replicate (count .oz List.length_replicate) _,
    map_reset_eq_replicate (count .pz List.length_replicate) _, map_reset_eq_replicate (count .bq List.length_replicate) _,
    map_reset_eq_replicate (count .bow List.length_replicate) _,
    map_reset_eq_replicate (count .reed List.length_replicate) _,
    map_reset_eq_replicate (count .jet List.length_replicate) _,
    map_reset_eq_replicate (count .lip List.length_replicate) _,
    map_reset_eq_replicate (count .env List.length_replicate) _,
    map_reset_eq_replicate (count .adsr List.length_replicate) _,
    map_reset_eq_replicate (count .ns List.length_replicate) _, osc⟩

/-- The response cycle after a reset differs from the reset state in cmd_ready and rsp_valid only: R and WARN are 0, and
irq is low. -/
theorem endCommand_restart (s : State) :
    endCommand (restart s) = { restart s with cmdReady := false, rspValid := true } := by
  rw [endCommand, ← irq_restart]

theorem respond_restart (s : State) : respond 0#32 [] (restart s) = endCommand (restart s) :=
  (endCommand_start (restart s)).symm

theorem exec_sysReset (s : State) : exec .sysReset s = .next (endCommand (restart s)) := rfl

/-- Settles O10: both resets are `restart`, by the port, by the command and by the step. -/
theorem bothResetsLeaveTheResetState : Obligations.BothResetsLeaveTheResetState := by
  refine ⟨fun c v p => ⟨rfl, rfl, rfl, rfl, rfl⟩, fun s => ?_, fun s es h => ⟨_, step_rst h, ?_⟩,
    fun b s => restart_of_buildKept⟩
  · rw [exec_sysReset, respond_restart]
  · rw [exec_sysReset, endCommand_restart]

/-- Settles O9: each field of the reset state is its class's reset value, and no word is stored. -/
theorem resetStateOfEveryBuild : Obligations.ResetStateOfEveryBuild := by
  intro b s
  have zeros : s.voice.floats = List.replicate 20 0#32 := rfl
  have voice : ∀ x ∈ s.voice.floats, x = 0#32 := fun x hx => List.eq_of_mem_replicate (zeros ▸ hx)
  have buf : ∀ d ∈ s.dl, ∀ k, memRead d.buf k = 0#32 := List.forall_mem_map.mpr fun _ _ _ => rfl
  have tbl : ∀ o ∈ s.osc, ∀ k, memRead o.tbl k = 0#32 := fun o ho k => by
    rw [List.eq_of_mem_replicate ho]
    rfl
  exact ⟨rfl, rfl, rfl, rfl, rfl, rfl, rfl, rfl, rfl, rfl, rfl, rfl, rfl, rfl, rfl, rfl, voice, rfl, rfl, rfl, rfl, rfl,
    rfl, rfl, rfl, rfl, buf, tbl⟩

/-! ## The invariants at reset -/

section
variable {b : Config.Build}

theorem countsLegal_ofBuild (h : b.Legal) : countsLegal (State.ofBuild b) := by
  obtain ⟨-, dl, -, op, oz, pz, bq, bow, reed, jet, lip, env, adsr, ns, osc, -⟩ := h
  simp only [countsLegal, State.ofBuild, List.length_map, List.length_replicate]
  exact ⟨dl, op, oz, pz, bq, bow, reed, jet, lip, env, adsr, ns, osc⟩

theorem soundInside_ofBuild (h : b.Legal) : (State.ofBuild b).SoundInside := by
  obtain ⟨-, -, lens, -, -, -, -, -, -, -, -, -, -, -, -, oscT⟩ := h
  have line (n : Nat) (hn : n ∈ b.dlLens) : lineSound (DelayLine.reset n) :=
    ⟨lens n hn, (lens n hn).1, (lens n hn).1, memZero_wf, nofun⟩
  have table : tableSound (Osc.reset b.oscT) := ⟨oscT, memZero_wf, nofun⟩
  refine ⟨List.forall_mem_map.mpr line, fun o ho => ?_, fun n hn => ?_, Nat.zero_le 8⟩
  · rwa [List.eq_of_mem_replicate ho]
  · rw [List.eq_of_mem_replicate hn]
    decide

end

/-- Settles O16: the reset state of a legal build is sound, and a reset leaves it as it is, so it has what every reset
leaves. -/
theorem invariantsHoldAtReset : Obligations.InvariantsHoldAtReset := by
  intro b h
  have canonical := canonicalUnits_restart (State.ofBuild b)
  have inRange := inRangeUnits_restart (s := State.ofBuild b) h.1
  have irq := irq_restart (State.ofBuild b)
  have ⟨sound, trails⟩ := soundAndTrailing_restart (soundInside_ofBuild h)
  rw [restart_ofBuild] at canonical inRange irq sound trails
  exact ⟨State.sound_iff.mpr ⟨countsLegal_ofBuild h, sound, irq⟩, trails,
    (State.canonical_iff_units _).mpr canonical, State.inRange_iff_units.mpr inRange⟩

end Sys2Proof.Machine

/-! Recording of warnings and the response (spec/60_exceptions.md R532, R535, R538): every command completes, STATUS and
WARN gain the bits of the same warnings, and LAST_WARN is the code of one of them. -/

namespace Sys2Proof.Machine

/-! ## Every command and every step completes (R538) -/

/-- Every arm of the dispatch is a `command`, whose response is the next state. -/
theorem exec_completes (i : Instr) (s : State) : ∃ t, exec i s = .next t := by
  cases i <;> exact ⟨_, rfl⟩

theorem runPacket_completes (p : Packet) (s : State) : ∃ t, runPacket p s = .next t := by
  cases h : decode p with
  | ok i =>
    rw [runPacket_of_ok h]
    exact exec_completes i s
  | error e => exact ⟨_, runPacket_of_error h s⟩

/-- Settles O7: a step is an idle cycle, a reset or a packet, and every command is a rule between its start and its
response. -/
theorem everyCommandAndStepCompletes : Obligations.EveryCommandAndStepCompletes := by
  refine ⟨exec_completes, fun s => ?_⟩
  cases h : s.inbox with
  | nil => exact ⟨_, step_nil h⟩
  | cons e es =>
    cases e with
    | command p =>
      rw [step_command h]
      exact runPacket_completes p _
    | idle => exact ⟨_, step_idle h⟩
    | rst => exact ⟨_, step_rst h⟩
    | abandoned p => exact ⟨_, step_abandoned h⟩

/-! ## What every update keeps -/

/-- If WARN holds a bit, LAST_WARN is a code whose bit WARN holds (R532). -/
def State.WarnNamed (s : State) : Prop :=
  s.rspWarn ≠ 0#8 → ∃ k, 1 ≤ k ∧ k ≤ 8 ∧ s.lastWarn = BitVec.ofNat 4 k ∧ s.rspWarn.getLsbD (k - 1) = true

theorem warnNamed_raise (w : Warning) (s : State) : (raise w s).WarnNamed := by
  have bit : 1 ≤ warnCode w ∧ (warnBit w).getLsbD (warnCode w - 1) = true := by cases w <;> decide
  exact fun _ => ⟨warnCode w, bit.1, warnCode_le w, rfl, by rw [raise_rspWarn, BitVec.getLsbD_or, bit.2, Bool.or_true]⟩

theorem warnNamed_of_rspWarn_eq_zero {s : State} (h : s.rspWarn = 0#8) : s.WarnNamed := fun hne => absurd h hne

theorem Update.warnNamed {s t : State} (h : Update s t) (hs : s.WarnNamed) : t.WarnNamed := by
  cases h with
  | warn w => exact warnNamed_raise w s
  | reset => exact warnNamed_of_rspWarn_eq_zero rfl
  | _ => exact hs

theorem Update.inbox_eq {s t : State} (h : Update s t) : t.inbox = s.inbox := by cases h <;> rfl

theorem Updates.inbox_eq {s t : State} (h : Updates s t) : t.inbox = s.inbox :=
  h.keeps (P := fun r => r.inbox = s.inbox) (fun _ _ hu hr => hu.inbox_eq.trans hr) rfl

/-! ## Warnings recorded by a rule -/

/-- From `s` to `t` WARN and STATUS gain the bits of the same warnings `m`, and without one LAST_WARN stays (R532). -/
def Recorded (s t : State) : Prop :=
  ∃ m, t.rspWarn = s.rspWarn ||| m ∧ t.status = s.status ||| m ∧ (m = 0#8 → t.lastWarn = s.lastWarn)

/-- WARN, STATUS and LAST_WARN. -/
def State.flags (s : State) : BitVec 8 × BitVec 8 × BitVec 4 := (s.rspWarn, s.status, s.lastWarn)

theorem Confined.recorded {unit : Option (UnitClass × Nat)} {s t : State} (h : Confined unit s t) : Recorded s t :=
  h.warned

section
variable {s t r : State}

theorem recorded_of_flags_eq (h : t.flags = s.flags) : Recorded s t := by
  simp only [State.flags, Prod.mk.injEq] at h
  obtain ⟨warn, status, last⟩ := h
  exact ⟨0#8, by simp [warn], by simp [status], fun _ => last⟩

/-- Read from the last rule back to the first. -/
theorem Recorded.after (h : Recorded t r) (h' : Recorded s t) : Recorded s r := by
  obtain ⟨m', warn', status', last'⟩ := h'
  obtain ⟨m, warn, status, last⟩ := h
  refine ⟨m' ||| m, by rw [warn, warn', BitVec.or_assoc], by rw [status, status', BitVec.or_assoc], fun h0 => ?_⟩
  obtain ⟨hm', hm⟩ := BitVec.or_eq_zero_iff.mp h0
  exact (last hm).trans (last' hm')

/-- A change of other fields after a rule. -/
theorem Recorded.of_flags_eq {r' : State} (h : Recorded s r') (hr : r.flags = r'.flags) : Recorded s r :=
  (recorded_of_flags_eq hr).after h

end

section
variable (s : State) (f amp x : F32)

theorem recorded_raise (w : Warning) : Recorded s (raise w s) := (confined_raise (unit := none) w).recorded

theorem recorded_raiseIf (c : Bool) (w : Warning) : Recorded s (raiseIf c w s) :=
  ((confined_refl none s).raiseIf c w).recorded

theorem recorded_refuse : Recorded s (refuse s) := (confined_refuse (unit := none)).recorded

theorem recorded_answerReg (r : Option Word) : Recorded s (answerReg r s) :=
  (confined_answerReg (unit := none) r).recorded

theorem recorded_warned (ws : List Warning) : Recorded s (warned ws s) := by
  induction ws generalizing s with
  | nil => rw [warned_nil]; exact recorded_of_flags_eq rfl
  | cons w ws ih =>
    rw [← List.singleton_append, ← warned_warned, ← raise_eq_warned]
    exact (ih _).after (recorded_raise s w)

/-! ## Flags that an update of other fields keeps -/

@[simp] theorem setDl_flags (u : Nat) (q : DelayLine) : (s.setDl u q).flags = s.flags := rfl
@[simp] theorem setOp_flags (u : Nat) (q : OnePole) : (s.setOp u q).flags = s.flags := rfl
@[simp] theorem setOz_flags (u : Nat) (q : OneZero) : (s.setOz u q).flags = s.flags := rfl
@[simp] theorem setPz_flags (u : Nat) (q : PoleZero) : (s.setPz u q).flags = s.flags := rfl
@[simp] theorem setBq_flags (u : Nat) (q : Biquad) : (s.setBq u q).flags = s.flags := rfl
@[simp] theorem setBow_flags (u : Nat) (q : Bow) : (s.setBow u q).flags = s.flags := rfl
@[simp] theorem setReed_flags (u : Nat) (q : Reed) : (s.setReed u q).flags = s.flags := rfl
@[simp] theorem setJet_flags (u : Nat) (q : Jet) : (s.setJet u q).flags = s.flags := rfl
@[simp] theorem setLip_flags (u : Nat) (q : Lip) : (s.setLip u q).flags = s.flags := rfl

/-! ## The rules of the voice -/

theorem recorded_subDlSetDelay (u : Nat) : Recorded s (subDlSetDelay u x s) :=
  (recorded_raiseIf _ _ _).after (recorded_of_flags_eq rfl)

theorem recorded_subOscSetFreq : Recorded s (subOscSetFreq 0 f s) :=
  (recorded_raiseIf _ _ _).after (recorded_of_flags_eq rfl)

theorem recorded_subEnvSetTarget : Recorded s (subEnvSetTarget 0 x s) := by
  unfold subEnvSetTarget
  split
  · exact recorded_raise s _
  · exact recorded_of_flags_eq rfl

theorem recorded_sendEnv (rate goal : F32) : Recorded s (subEnvSetTarget 0 goal (subEnvSetRate 0 rate s)) :=
  (recorded_subEnvSetTarget _ _).after <| (recorded_raiseIf _ _ _).after (recorded_of_flags_eq rfl)

theorem recorded_distribute : Recorded s (distribute x s) := by
  rw [distribute_eq]
  exact (recorded_warned _ _).after (recorded_of_flags_eq rfl)

theorem recorded_setFreq : Recorded s (setFreq f s) := by
  rw [setFreq_eq]
  exact (recorded_warned _ _).after (recorded_of_flags_eq rfl)

theorem excite_flags : (excite s).1.flags = s.flags := by
  simp only [excite, subNsTick_eq]
  rfl

theorem recorded_loopBowed : Recorded s (loopBowed s).1 := by
  simp only [loopBowed, subBqTick]
  refine Recorded.of_flags_eq ?_ (setBq_flags _ _ _)
  split
  · refine (recorded_subDlSetDelay _ _ 0).after (recorded_of_flags_eq ?_)
    simp [subDlTick, subBowTick, subOpTick, excite_flags]
  · refine recorded_of_flags_eq ?_
    simp [subDlTick, subBowTick, subOpTick, excite_flags]

/-- Only the vibrato of Bowed can warn. -/
theorem recorded_loopBody : Recorded s (loopBody s).1 := by
  unfold loopBody
  cases s.voice.instr with
  | bowed => exact recorded_loopBowed s
  | clarinet =>
    exact recorded_of_flags_eq (by simp [loopClarinet, subDlTick, subReedTick, subOzTick, excite_flags])
  | flute =>
    exact recorded_of_flags_eq (by simp [loopFlute, subDlTick, subJetTick, subPzTick, subOpTick, excite_flags])
  | brass => exact recorded_of_flags_eq (by simp [loopBrass, subPzTick, subDlTick, subLipTick, excite_flags])
  | plucked | none => exact recorded_of_flags_eq rfl

theorem pluckTick_flags : (pluckTick s).flags = s.flags := by
  simp only [pluckTick, subNsTick_eq]
  rfl

theorem pluckFill_flags : (pluckFill amp s).flags = s.flags := by
  have ticks (n : Nat) (t : State) : (pluckTick^[n] t).flags = t.flags :=
    congrFun (Function.iterate_invariant (g := State.flags) (funext pluckTick_flags) n) t
  simp only [pluckFill, pluckTicks_eq_iterate, ticks]
  rfl

theorem subBqSetCoef_flags (u : Nat) {k : Nat} (hk : k ≤ 4) : (subBqSetCoef u k x s).flags = s.flags := by
  interval_cases k <;> rfl

theorem subLipSetCoef_flags (u : Nat) {k : Nat} (hk : k ≤ 4) : (subLipSetCoef u k x s).flags = s.flags := by
  interval_cases k <;> rfl

/-- Every coefficient of an instrument exists, so that its oscillator's frequency alone can warn. -/
theorem recorded_configureUnits (i : Instrument) : Recorded s (configureUnits i s) := by
  cases i with
  | bowed =>
    refine (recorded_subOscSetFreq _ _).after (recorded_of_flags_eq ?_)
    simp [subBowSetSlope, subBowSetOffset, subBqSetCoef_flags, subBqSetFreqReson, subOpSetPole, subOpSetGain]
  | clarinet =>
    refine (recorded_subOscSetFreq _ _).after (recorded_of_flags_eq ?_)
    simp [subReedSetSlope, subReedSetOffset, subOzSetZero, subOzSetGain]
  | flute =>
    refine (recorded_subOscSetFreq _ _).after (recorded_of_flags_eq ?_)
    simp [subPzSetBlockZero, subOpSetPole, subOpSetGain]
  | brass =>
    refine (recorded_subOscSetFreq _ _).after (recorded_of_flags_eq ?_)
    simp [subPzSetBlockZero, subLipSetCoef_flags]
  | plucked | none => exact recorded_of_flags_eq rfl

theorem recorded_voiceReset : Recorded s (voiceReset s) := by
  rw [voiceReset_eq]
  exact recorded_of_flags_eq rfl

theorem recorded_selectInstrument (i : Instrument) : Recorded s (selectInstrument i s) :=
  (recorded_setFreq _ _).after <| (recorded_voiceReset _).after <| (recorded_configureUnits _ i).after
    (recorded_of_flags_eq rfl)

theorem recorded_startExcitation : Recorded s (startExcitation amp s) := by
  unfold startExcitation
  split
  · exact recorded_of_flags_eq (pluckFill_flags _ _)
  · exact recorded_sendEnv s _ _

theorem recorded_noteOn : Recorded s (noteOn f amp s) := by
  rw [noteOn_eq_excited]
  refine Recorded.of_flags_eq ?_ rfl
  exact (recorded_startExcitation _ _).after <| (recorded_warned _ _).after (recorded_of_flags_eq rfl)

theorem recorded_releaseExcitation : Recorded s (releaseExcitation amp s) := by
  unfold releaseExcitation
  split
  · exact recorded_of_flags_eq rfl
  · exact recorded_sendEnv s _ _

theorem recorded_noteOff : Recorded s (noteOff amp s) := by
  rw [noteOff_eq_released]
  exact ((recorded_releaseExcitation _ _).after (recorded_warned _ _)).of_flags_eq rfl

theorem releaseCheck_flags : (releaseCheck s).flags = s.flags := by
  unfold releaseCheck
  split <;> rfl

theorem recorded_voiceTick : Recorded s (voiceTick s) :=
  (recorded_of_flags_eq (releaseCheck_flags (sampled s))).after <| (recorded_of_flags_eq rfl).after (recorded_loopBody s)

theorem recorded_ccAction {i : Instrument} {num : Nat} {act : F32 → State → State} (h : ccAction i num = some act) :
    Recorded s (act x s) := by
  have quiet {t : State} (ht : t.flags = s.flags) : Recorded s t := recorded_of_flags_eq ht
  have position : Recorded s (ccPosition x s) := (recorded_distribute _ _).after (quiet rfl)
  have rate : Recorded s (ccRate x s) := recorded_subOscSetFreq s _
  unfold ccAction at h
  split at h <;> cases h
  · exact quiet rfl
  · exact quiet rfl
  · exact position
  · exact rate
  · exact quiet rfl
  · exact quiet rfl
  · exact quiet rfl
  · exact rate
  · exact quiet rfl
  · exact quiet rfl
  · exact rate
  · exact quiet rfl
  · exact rate

theorem recorded_controlChange (num : Nat) : Recorded s (controlChange num x s) := by
  unfold controlChange
  split
  · exact recorded_raise s _
  · exact (recorded_ccAction _ _ ‹_›).after (recorded_raiseIf _ _ _)

end

/-! ## Commands -/

section
variable {s t : State} {body : State → State}

theorem command_recorded (h : command body s = .next t) (hb : ∀ s, Recorded s (body s)) :
    Recorded (startCommand s) t := by
  rw [command_eq] at h
  cases h
  exact hb (startCommand s)

theorem voiceCommand_recorded (h : command (onVoice body) s = .next t) (hb : ∀ s, Recorded s (body s)) :
    Recorded (startCommand s) t := by
  refine command_recorded h fun s => ?_
  unfold onVoice
  split
  · exact recorded_raise s _
  · exact hb s

theorem exec_voice_recorded {i : Instr} (hvoice : isVoice i = true) (h : exec i s = .next t) :
    Recorded (startCommand s) t := by
  cases i with
  | vNoteOn => exact voiceCommand_recorded h fun s => recorded_noteOn s _ _
  | vNoteOff => exact voiceCommand_recorded h fun s => recorded_noteOff s _
  | vSetFreq => exact voiceCommand_recorded h fun s => recorded_setFreq s _
  | vTick => exact voiceCommand_recorded h recorded_voiceTick
  | vCc num => exact voiceCommand_recorded h fun s => recorded_controlChange s _ num
  | vReset => exact voiceCommand_recorded h recorded_voiceReset
  | vLastOut => exact voiceCommand_recorded h fun _ => recorded_of_flags_eq rfl
  | vRdReg => exact command_recorded h fun s => recorded_answerReg s _
  | vSetInstr id =>
    simp only [exec, execVSetInstr] at h
    refine command_recorded h fun s => ?_
    split
    · exact recorded_selectInstrument s _
    · exact recorded_refuse s
  | vWrReg =>
    simp only [exec, execVWrReg] at h
    refine command_recorded h fun s => ?_
    split
    · exact recorded_of_flags_eq rfl
    · exact recorded_refuse s
  | _ => cases hvoice

/-- A write of a register other than STATUS. -/
theorem recorded_sysWrite {reg : Nat} (hreg : reg ≠ 1) (v : Word) (s : State) : Recorded s (sysWrite reg v s) := by
  unfold sysWrite
  split
  · exact absurd rfl hreg
  · exact recorded_of_flags_eq rfl
  · exact recorded_of_flags_eq rfl
  · exact recorded_refuse s

/-- Every command but SYS.RESET and a write of STATUS records its warnings. -/
theorem exec_recorded {i : Instr} (h : exec i s = .next t) (hreset : i ≠ .sysReset) (hstatus : ∀ v, i ≠ .sysWrReg 1 v) :
    Recorded (startCommand s) t := by
  cases hvoice : isVoice i with
  | true => exact exec_voice_recorded hvoice h
  | false =>
    by_cases hwrite : ∃ r v, i = .sysWrReg r v
    · obtain ⟨r, v, rfl⟩ := hwrite
      exact command_recorded h fun s => recorded_sysWrite (fun hr => hstatus v (by rw [hr])) v s
    · push Not at hwrite
      exact (exec_confined h hvoice hreset hwrite).recorded

/-- From a cleared WARN the warnings recorded are WARN itself. -/
theorem Recorded.from_start (h : Recorded (startCommand s) t) :
    t.status = s.status ||| t.rspWarn ∧ (t.rspWarn = 0#8 → t.lastWarn = s.lastWarn) := by
  obtain ⟨m, warn, status, last⟩ := h
  obtain rfl : t.rspWarn = m := by simpa using warn
  exact ⟨status, last⟩

/-- A write of STATUS raises no warning, so it keeps LAST_WARN as any other command does. -/
theorem exec_lastWarn {i : Instr} (h : exec i s = .next t) (hreset : i ≠ .sysReset) (h0 : t.rspWarn = 0#8) :
    t.lastWarn = s.lastWarn := by
  by_cases hstatus : ∃ v, i = .sysWrReg 1 v
  · obtain ⟨v, rfl⟩ := hstatus
    cases h
    rfl
  · push Not at hstatus
    exact (exec_recorded h hreset hstatus).from_start.2 h0

end

/-- Settles O17: a command's rule records its warnings from a cleared WARN, no update breaks that LAST_WARN names a bit of
WARN, and the response drives irq. -/
theorem everyCommandRecordsItsWarnings : Obligations.EveryCommandRecordsItsWarnings := by
  intro i s t h
  have status (hreset : i ≠ .sysReset) (hstatus : ∀ v, i ≠ .sysWrReg 1 v) : t.status = s.status ||| t.rspWarn :=
    (exec_recorded h hreset hstatus).from_start.1
  have lastWarn := exec_lastWarn h
  obtain ⟨r, hr, rfl⟩ := exec_ran h
  have named : r.WarnNamed := hr.keeps (fun _ _ => Update.warnNamed) (warnNamed_of_rspWarn_eq_zero rfl)
  exact ⟨status, lastWarn, named, rfl, rfl, rfl, hr.inbox_eq⟩

end Sys2Proof.Machine
